-- ==== Sys2Proof/Word.lean ====
section
/-! DEFINITION. The two word types of the model: what the host bus carries is bytes (R159), what a
cycle count or a stamp holds is sixteen bits (R83, R148). -/

namespace Sys2Proof

/-- One byte of the host bus, of a register or of a character on a line. -/
abbrev Byte := BitVec 8

/-- A cycle count or a stamp: 0 to 65535, wrapping (R83). -/
abbrev Count16 := BitVec 16

end Sys2Proof
end

