-- ==== Sys2Proof/Syntax.lean ====
section
/-! DEFINITION. The steps the block takes, one constructor of `Instr` for each row of
spec/opcode_table.json, with the raw inputs (bus values, pin readings, samples of the wire) that the
row takes from outside the device. -/

namespace Sys2Proof

/-- The two field lines (R174: line codes 00h and 01h). -/
inductive LineId where
  | a | b
deriving DecidableEq, Repr

/-- The level of a field line's wire (R1). -/
inductive Level where
  | dominant | recessive
deriving DecidableEq, Repr

/-- The level of a HOLD pin; the pins are active low (R90). -/
inductive PinLevel where
  | low | high
deriving DecidableEq, Repr

/-- The three samples of one bit, at 7/16, 8/16 and 9/16 of its bit time (R3). -/
structure Samples where
  first  : Level
  second : Level
  third  : Level
deriving DecidableEq, Repr

/-- The five posters of the event queue, each with its own path (R150). -/
inductive Poster where
  | lineController (x : LineId)
  | messageTable
  | nodeMonitor
  | commandUnit
deriving DecidableEq, Repr

/-- The steps of the device, in the order of spec/opcode_table.json.

The sixteen command codes (`start` to `erase`) carry no operands: the arguments of a command are the
latches that CMD_WRITE filled (R162), and the constructor is the instant at which the owner takes the
accepted command (R164). A time-driven step (`slotEnd`, `alertEnd`, ...) names its line; its instant is
the one its rule gives. -/
inductive Instr where
  /-- POWER_ON_RESET (R171). -/
  | powerOnReset
  /-- START (R96). -/
  | start
  /-- STOP_END (R97). -/
  | stopEnd
  /-- STOP_NOW (R98). -/
  | stopNow
  /-- SWITCH (R99). -/
  | switch
  /-- HOLD_SET (R89). -/
  | holdSet
  /-- HOLD_CLEAR (R89). -/
  | holdClear
  /-- WAKE (R127). -/
  | wake
  /-- CLEAR_FAULT (R133). -/
  | clearFault
  /-- LINE_RESET (R101). -/
  | lineReset
  /-- SUPPLY (R105). -/
  | supply
  /-- ENQUEUE (R111). -/
  | enqueue
  /-- CANCEL (R112). -/
  | cancel
  /-- OPEN_PEEK (R167). -/
  | openPeek
  /-- OPEN_TAKE (R55, R167). -/
  | openTake
  /-- COMMIT (R169). -/
  | commit
  /-- ERASE (R170). -/
  | erase
  /-- POP (R155): a write to 0Fh; the value is ignored. -/
  | pop (value : Byte)
  /-- INT_ENABLE_WRITE (R156): a write to 0Ch. -/
  | intEnableWrite (value : Byte)
  /-- KIND_MASK_WRITE (R157): a write to 0Dh. -/
  | kindMaskWrite (value : Byte)
  /-- PORT_POINTER_WRITE (R168): a write to 1Ah. -/
  | portPointerWrite (value : Byte)
  /-- PORT_DATA_READ (R168): a read of 1Bh. -/
  | portDataRead
  /-- PORT_DATA_WRITE (R168): a write to 1Bh. -/
  | portDataWrite (value : Byte)
  /-- PORT_STATE_WRITE (R170): a write to 1Ch; the value is ignored. -/
  | portStateWrite (value : Byte)
  /-- REGISTER_WRITE (R160): a write to a register without behaviour of its own. -/
  | registerWrite (address : BitVec 5) (value : Byte)
  /-- HOLD_PIN_LEVEL_CHANGE (R90). -/
  | holdPinLevelChange (line : LineId)
  /-- SLOT_END (R88). -/
  | slotEnd (line : LineId)
  /-- ALERT_END (R20). -/
  | alertEnd (line : LineId)
  /-- MARK_END (R21). -/
  | markEnd (line : LineId)
  /-- CONTROL_END (R22). -/
  | controlEnd (line : LineId)
  /-- READBACK (R24): the comparison of bit time `bit` of the present frame state with the three
  samples taken of it. -/
  | readback (line : LineId) (bit : Nat) (samples : Samples)
  /-- REPLY_CHARACTER (R26): the first, second and third samples of the eight data bits (bits 0 to 7)
  and the stop bit (bit 8) of the character in assembly; a set bit is a recessive sample. -/
  | replyCharacter (line : LineId) (first second third : BitVec 9)
  /-- REPLY_SPACE_END (R25). -/
  | replySpaceEnd (line : LineId)
  /-- REPLY_GAP_END (R27). -/
  | replyGapEnd (line : LineId)
  /-- CHECK_COMPARE (R28). -/
  | checkCompare (line : LineId)
  /-- SUPPLY_WINDOW_END (R31). -/
  | supplyWindowEnd (line : LineId)
  /-- PUSH_SPACE_END (R32). -/
  | pushSpaceEnd (line : LineId)
  /-- PUSH_END (R33). -/
  | pushEnd (line : LineId)
  /-- STUCK_LINE_REPORT (R130). -/
  | stuckLineReport (line : LineId)
  /-- REMOTE_WAKE (R126). -/
  | remoteWake (line : LineId)
  /-- WAKE_PULSE_END (R127). -/
  | wakePulseEnd (line : LineId)
  /-- RECOVERY_END (R129). -/
  | recoveryEnd (line : LineId)
  /-- POST_TAKEN (R152): the arbiter takes the post at the front of this poster's path. -/
  | postTaken (path : Poster)
  /-- RESET_RECORDS_POSTED (R150): the oldest line reset of this line that still holds records. -/
  | resetRecordsPosted (line : LineId)
  /-- REPLY_START_BIT (R25, R27): a start edge seen `edge` REFCLK periods after the slot start, and the
  three samples of the start bit it may have begun. -/
  | replyStartBit (line : LineId) (edge : Nat) (samples : Samples)
  /-- BIT_TIME_JUDGED (R122): the three samples of the next bit time of the line's base. -/
  | bitTimeJudged (line : LineId) (samples : Samples)
  /-- HOLD_PIN_SAMPLE (R90): one reading of the line's HOLD pin. -/
  | holdPinSample (line : LineId) (reading : PinLevel)
  /-- CMD_WRITE (R162): a write to 03h. -/
  | cmdWrite (value : Byte)
  /-- RESETN_RELEASE (R171): RESETn is deasserted. -/
  | resetnRelease
deriving DecidableEq, Repr

end Sys2Proof
end

