-- ==== Sys2Proof/Decode.lean ====
section
/-! DEFINITION. The steps that a word spells by the opcode table's bits. The table gives no row any bits:
the steps of this device are accesses, events and commands, not words in a memory. -/

/-- No row of spec/opcode_table.json has bits, so no word spells a step. -/
def Sys2Proof.decodeTableWord (_nbits _w : Nat) : Option Sys2Proof.Instr := none
end

