-- ==== Sys2Proof/Config.lean ====
section
/-! DEFINITION. The fixed quantities of the device and the one free value of the model. -/

namespace Sys2Proof

/-- The guard added to every maximum frame time in a fit check (R16). -/
def Config.guardBits : Nat := 4

/-- The capacity of the event queue in records (R151). -/
def Config.queueCapacity : Nat := 32

/-- The greatest value of the gap counter (R153). -/
def Config.gapLimit : Nat := 15

/-- The capacity of a line's ad-hoc queue (R110). -/
def Config.adhocCapacity : Nat := 8

/-- The device identity and revision constants of registers 00h and 01h (R160). -/
def Config.identity : Byte := 0x2C
/-- The revision constant of register 01h (R160). -/
def Config.revision : Byte := 0x01

/-- The DETAIL byte of an answer to STOP_END, for which the spec states none (R97): a free value, a fresh
one for each such answer. DESIGN CHOICE (assumption 1). -/
opaque Config.freeDetail : Nat → Byte

end Sys2Proof
end

