-- ==== Sys2Proof/Machine/State.lean ====
section
/-! DEFINITION. The state of the device as plain data: every piece of state the chapters name, the
model's own few fields, the reasons a step can stop, and the machine right after reset. -/

namespace Sys2Proof.Machine

/-! ## Message table (chapter 3) -/

/-- Who sends the data part of a message (R39). -/
inductive Direction where
  | poll | push
deriving DecidableEq, Repr

/-- Where push data come from (R39). -/
inductive Supply where
  | stored | deferred
deriving DecidableEq, Repr

/-- Which scheduled frames of a message are reported by event (R39, R53). -/
inductive Notify where
  | none | fail | all
deriving DecidableEq, Repr

/-- The outcomes a frame can end with (R37). -/
inductive FrameOutcome where
  | ok | noReply | shortReply | crcFail | framing | readback | lineStuck | lateData | cancelled
deriving DecidableEq, Repr

/-- A descriptor's place in its line's ad-hoc queue (R57). -/
inductive AdhocView where
  | none | queued | inFlight
deriving DecidableEq, Repr

/-- The configuration fields of a message descriptor (R39). -/
structure DescriptorConfig where
  inUse     : Bool
  line      : LineId
  tag       : BitVec 7
  direction : Direction
  length    : Nat
  supply    : Supply
  node      : Option (Fin 32)
  notify    : Notify
deriving DecidableEq, Repr

/-- One entry of the message table: configuration (R39), data buffer (R40) and status (R41).
`lastOutcome` is `none` for the code NONE. -/
structure Descriptor where
  config       : DescriptorConfig
  data         : Vector Byte 12
  lastOutcome  : Option FrameOutcome
  stamp        : Count16
  frameCounter : BitVec 3
  unread       : Bool
  overwritten  : Bool
  suspect      : Bool
  adhoc        : AdhocView
deriving DecidableEq, Repr

/-- The power-on values of R39. -/
def DescriptorConfig.initial : DescriptorConfig :=
  { inUse := false, line := .a, tag := 0, direction := .poll, length := 1, supply := .stored,
    node := none, notify := .none }

/-- The power-on and ERASE values of R39, R40 and R41. -/
def Descriptor.initial : Descriptor :=
  { config := .initial, data := Vector.replicate 12 0, lastOutcome := none, stamp := 0,
    frameCounter := 0, unread := false, overwritten := false, suspect := false, adhoc := .none }

/-! ## Schedule store (chapter 4) -/

/-- A schedule directory entry (R58). -/
structure DirectoryEntry where
  inUse     : Bool
  firstSlot : Nat
  slotCount : Nat
  followOn  : Option (Fin 8)
deriving DecidableEq, Repr

/-- The power-on and ERASE values of R58. -/
def DirectoryEntry.initial : DirectoryEntry :=
  { inUse := false, firstSlot := 0, slotCount := 1, followOn := none }

/-- What a slot does when it runs (R59, R61). -/
inductive SlotKind where
  | empty | regular | gap | mark | open | hush
deriving DecidableEq, Repr

/-- A slot-memory entry (R59). -/
structure Slot where
  kind       : SlotKind
  length     : Nat
  divisor    : Nat
  phase      : Nat
  descriptor : Fin 64
deriving DecidableEq, Repr

/-- The power-on and ERASE values of R59. -/
def Slot.initial : Slot :=
  { kind := .empty, length := 8, divisor := 1, phase := 0, descriptor := 0 }

/-! ## Node monitor (chapter 8) -/

/-- The node monitor's judgement of a station (R137). -/
inductive NodeState where
  | unused | unknown | present | missing | erratic
deriving DecidableEq, Repr

/-- The configuration fields of a node record (R136). -/
structure NodeConfig where
  inUse          : Bool
  line           : LineId
  missThreshold  : Nat
  errorThreshold : Nat
  probeDivisor   : Nat
  notify         : Bool
deriving DecidableEq, Repr

/-- One node record: configuration (R136) and status (R137). -/
structure Node where
  config : NodeConfig
  state  : NodeState
  misses : Nat
  score  : Nat
deriving DecidableEq, Repr

/-- The power-on and ERASE values of R136. -/
def NodeConfig.initial : NodeConfig :=
  { inUse := false, line := .a, missThreshold := 1, errorThreshold := 1, probeDivisor := 1,
    notify := false }

/-- The power-on and ERASE values of R136 and R137. -/
def Node.initial : Node :=
  { config := .initial, state := .unused, misses := 0, score := 0 }

/-! ## Frame sequencer (chapter 2) -/

/-- What the sequencer is doing (R17). -/
inductive FrameState where
  | idle | alert | mark | header | replyWait | reply | supplyWait | pushSpace | push
deriving DecidableEq, Repr

/-- What started the frame in flight (R17, R18). -/
inductive FrameSource where
  | scheduled (slot : Fin 128)
  | adHoc
  | hush
deriving DecidableEq, Repr

/-- The kind of a frame, fixed at frame start (R17, R19). -/
inductive FrameKind where
  | poll | storedPush | deferredPush | hush
deriving DecidableEq, Repr

/-- One frame sequencer: the fields of R17, and last the four times that R25 to R27 and R33 measure
from (the model's names): the start edge of the character in assembly, the nominal end of the last
character received, the start of the first push character, and the first instant at which the receiver
looks again after a recessive start bit. `controlEnd` is in bit times and the four times are in REFCLK
periods, all from the slot start. -/
structure Sequencer where
  frameState    : FrameState
  source        : Option FrameSource
  descriptor    : Option (Fin 64)
  kind          : Option FrameKind
  length        : Option Nat
  txBuffer      : Vector Byte 15
  rxBuffer      : Vector Byte 13
  runningCheck  : Byte
  bitPosition   : Nat
  charCount     : Nat
  controlEnd    : Option Nat
  supplyRequest : Option (Fin 64)
  startEdge     : Option Nat
  lastCharEnd   : Option Nat
  pushStart     : Option Nat
  lookAgain     : Option Nat
deriving DecidableEq, Repr

/-- The values after a power-on reset and after a line reset (R17). -/
def Sequencer.initial : Sequencer :=
  { frameState := .idle, source := none, descriptor := none, kind := none, length := none,
    txBuffer := Vector.replicate 15 0, rxBuffer := Vector.replicate 13 0, runningCheck := 0xFF,
    bitPosition := 0, charCount := 0, controlEnd := none, supplyRequest := none,
    startEdge := none, lastCharEnd := none, pushStart := none, lookAgain := none }

/-! ## Line controller (chapters 5, 6 and 7) -/

/-- Where a hold request halts the line (R76). -/
inductive HoldPoint where
  | slot | cycle
deriving DecidableEq, Repr

/-- The line settings record (R76): times in bit times of the line, the divisor in REFCLK periods. -/
structure LineSettings where
  divisor       : Nat
  alert         : Nat
  mark          : Nat
  replySpace    : Nat
  replyGap      : Nat
  pushSpace     : Nat
  pushGap       : Nat
  supplyWindow  : Nat
  stuckLimit    : Nat
  wakePulse     : Nat
  wakeQualify   : Nat
  recovery      : Nat
  holdPoint     : HoldPoint
  holdPinEnable : Bool
deriving DecidableEq, Repr

/-- The power-on and ERASE values of R76. -/
def LineSettings.initial : LineSettings :=
  { divisor := 208, alert := 13, mark := 2, replySpace := 6, replyGap := 2, pushSpace := 2,
    pushGap := 0, supplyWindow := 40, stuckLimit := 60, wakePulse := 8, wakeQualify := 4,
    recovery := 40, holdPoint := .slot, holdPinEnable := false }

/-- What a line is doing (R79, R80). -/
inductive LineState where
  | off | running | draining | held | asleep | waking | fault
deriving DecidableEq, Repr

/-- What the controller is doing in WAKING (R121). -/
inductive WakePhase where
  | none | pulse | recovery
deriving DecidableEq, Repr

/-- The line monitor and wake sequencer (R121). -/
structure Monitor where
  active        : Bool
  runCount      : Nat
  stuckReported : Bool
  qualifyCount  : Option Nat
  wakePhase     : WakePhase
  pulseCount    : Nat
  recoveryCount : Nat
deriving DecidableEq, Repr

/-- The values after a power-on reset and on going OFF (R121). -/
def Monitor.off : Monitor :=
  { active := false, runCount := 0, stuckReported := false, qualifyCount := none,
    wakePhase := .none, pulseCount := 0, recoveryCount := 0 }

/-- One line controller: settings (R76), controller state (R79), the HOLD pin sampler (R90), the ad-hoc
queue and in-flight request (R110), the monitor (R121) and the sequencer (R17).

The model's own fields: `time` is the line's clock in REFCLK periods; `bitsJudged` and `bitsSampled`
number the next bit time of the base to be judged (R122) and to be sampled for HOLD (R90);
`previousSample` is the pin sample before the last; `hushOk` is the outcome that R123 carries from the
hush frame's report to the slot end. -/
structure LineController where
  settings       : LineSettings
  lineState      : LineState
  active         : Option (Fin 8)
  pending        : Option (Fin 8)
  slotIndex      : Nat
  cycleCount     : Count16
  stopRequest    : Bool
  holdFlag       : Bool
  pinAsserted    : Bool
  lastSample     : PinLevel
  previousSample : PinLevel
  slotStart      : Option Nat
  hushOk         : Bool
  queue          : List (Fin 64)
  inFlight       : Option (Fin 64)
  monitor        : Monitor
  seq            : Sequencer
  time           : Nat
  bitsJudged     : Nat
  bitsSampled    : Nat
deriving DecidableEq, Repr

/-- The values after a power-on reset (R76, R79, R90, R110, R121, R17). -/
def LineController.initial : LineController :=
  { settings := .initial, lineState := .off, active := none, pending := none, slotIndex := 0,
    cycleCount := 0, stopRequest := false, holdFlag := false, pinAsserted := false,
    lastSample := .high, previousSample := .high, slotStart := none, hushOk := false, queue := [],
    inFlight := none, monitor := .off, seq := .initial, time := 0, bitsJudged := 0,
    bitsSampled := 0 }

/-! ## Event queue (chapter 9) -/

/-- The eight kinds of record (R148). -/
inductive EventKind where
  | frameOk | frameFail | adhocEnd | supplyDue | cycleMark | scheduleTaken | lineChange | nodeChange
deriving DecidableEq, Repr

/-- A post as its poster makes it: every field of a record but the gap (R148). -/
structure Post where
  kind   : EventKind
  line   : Option LineId
  index  : Byte
  detail : Byte
  stamp  : Count16
deriving DecidableEq, Repr

/-- A record in the queue (R148). -/
structure EventRecord where
  post : Post
  gap  : Nat
deriving DecidableEq, Repr

/-- The records of one line reset that the command unit holds back (R150, R158): the line, how many
posts of that line's controller the arbiter has still to take first, and the records, oldest first. -/
structure ResetHold where
  line    : LineId
  waiting : Nat
  records : List Post
deriving DecidableEq, Repr

/-- The event queue, the five post paths, the command unit's reset holds, the gap counter, the kind
mask and the INT enable (R150 to R158). -/
structure EventUnit where
  queue     : List EventRecord
  gap       : Nat
  kindMask  : Byte
  intEnable : Bool
  pathA     : List Post
  pathB     : List Post
  pathTable : List Post
  pathNode  : List Post
  pathUnit  : List Post
  holds     : List ResetHold
deriving DecidableEq, Repr

/-- The values after a power-on reset (R158). -/
def EventUnit.initial : EventUnit :=
  { queue := [], gap := 0, kindMask := 0x4E, intEnable := false, pathA := [], pathB := [],
    pathTable := [], pathNode := [], pathUnit := [], holds := [] }

/-! ## Host port (chapter 10) -/

/-- The result codes (R174). -/
inductive Result where
  | done | badArg | wrongState | invalidSchedule | inUse | duplicateTag | badReference | range
  | queueFull | alreadyQueued | notQueued | notWaiting | tooLate | lineLow
deriving DecidableEq, Repr

/-- The six tables of the table port (R167, R174). -/
inductive TableId where
  | descriptor | slot | directory | node | line | adhoc
deriving DecidableEq, Repr

/-- The command unit and the holding registers (R160 to R164). `command` is the command latch, which
CMD reads. -/
structure HostPort where
  busy     : Bool
  collided : Bool
  command  : Byte
  latch0   : Byte
  latch1   : Byte
  arg0     : Byte
  arg1     : Byte
  arg2     : Byte
  arg3     : Byte
  result   : Result
  detail   : Byte
deriving DecidableEq, Repr

/-- The values after a power-on reset (R162, R171). -/
def HostPort.initial : HostPort :=
  { busy := false, collided := false, command := 0, latch0 := 0, latch1 := 0, arg0 := 0, arg1 := 0,
    arg2 := 0, arg3 := 0, result := .done, detail := 0 }

/-- The table port (R166). -/
structure TablePort where
  isOpen  : Bool
  table   : TableId
  index   : Byte
  pointer : BitVec 5
  buffer  : Vector Byte 32
deriving DecidableEq, Repr

/-- The values after a power-on reset (R166). -/
def TablePort.initial : TablePort :=
  { isOpen := false, table := .descriptor, index := 0, pointer := 0, buffer := Vector.replicate 32 0 }

/-! ## The machine -/

/-- The whole device and the model's queue of waiting steps.

The model's own fields: `inReset` is the level of the RESETn pin as R159 and R171 use it; `readData` is
the byte the last read of port data drove on D0 to D7 (R159); `freeCount` numbers the free values drawn
so far (DESIGN CHOICE, assumption 1); `pending` is the queue of steps from outside, first in first out. -/
structure State where
  inReset     : Bool
  readData    : Byte
  host        : HostPort
  port        : TablePort
  descriptors : Vector Descriptor 64
  directory   : Vector DirectoryEntry 8
  slots       : Vector Slot 128
  nodes       : Vector Node 32
  lineA       : LineController
  lineB       : LineController
  events      : EventUnit
  freeCount   : Nat
  pending     : List Instr
deriving DecidableEq, Repr

/-- The machine right after reset: every block at its power-on values, RESETn deasserted (R171). The
values that no chapter states are DESIGN CHOICE (assumption 7). -/
def State.reset : State :=
  { inReset := false, readData := 0, host := .initial, port := .initial,
    descriptors := Vector.replicate 64 .initial, directory := Vector.replicate 8 .initial,
    slots := Vector.replicate 128 .initial, nodes := Vector.replicate 32 .initial,
    lineA := .initial, lineB := .initial, events := .initial, freeCount := 0, pending := [] }

/-- The reasons the machine can stop with a fault: none. The spec gives every step an effect or says
that it has none, so no constructor is needed. -/
inductive Fault where
deriving DecidableEq, Repr

/-- The reasons a step can be refused. -/
inductive Refusal where
  /-- Raised by no arm of `exec`: every row of the opcode table has its meaning. A step that had none
  would be refused so, by its mnemonic. Safe: the model stops. -/
  | notModelled (mnemonic : String)
deriving DecidableEq, Repr

end Sys2Proof.Machine
end

