-- ==== Sys2Proof/Machine/Codes.lean ====
section
/-! DEFINITION. The software-visible codes of R173 to R176: each named value of the state as the number
the host reads for it. -/

namespace Sys2Proof.Machine

/-- The low byte of a number held in two bytes (R172). -/
def lowByte (n : Nat) : Byte := BitVec.ofNat 8 n
/-- The high byte of a number held in two bytes (R172). -/
def highByte (n : Nat) : Byte := BitVec.ofNat 8 (n / 256)
/-- A number held in two bytes, low byte first (R172). -/
def twoBytes (low high : Byte) : Nat := low.toNat + 256 * high.toNat

/-- yes/no and on/off fields (R176). -/
def boolCode (b : Bool) : Byte := if b then 0x01 else 0x00

/-- Line codes (R174). -/
def lineCode : LineId → Byte
  | .a => 0x00
  | .b => 0x01

/-- The line byte of a record; FFh is none (R175). -/
def recordLineCode : Option LineId → Byte
  | some x => lineCode x
  | none => 0xFF

/-- An index field in which FFh stands for NONE (R176). -/
def indexCode {n : Nat} : Option (Fin n) → Byte
  | some i => BitVec.ofNat 8 i.val
  | none => 0xFF

/-- Line state codes (R173). -/
def lineStateCode : LineState → Nat
  | .off => 0 | .running => 1 | .draining => 2 | .held => 3 | .asleep => 4 | .waking => 5 | .fault => 6

/-- Frame state codes (R173). -/
def frameStateCode : FrameState → Nat
  | .idle => 0 | .alert => 1 | .mark => 2 | .header => 3 | .replyWait => 4 | .reply => 5
  | .supplyWait => 6 | .pushSpace => 7 | .push => 8

/-- The causes of LINE_CHANGE (R102). -/
inductive Cause where
  | command | stopped | hold | release | reset | hush | remote | stuck | recovered
deriving DecidableEq, Repr

/-- Cause codes (R173). -/
def causeCode : Cause → Nat
  | .command => 1 | .stopped => 2 | .hold => 3 | .release => 4 | .reset => 5 | .hush => 6
  | .remote => 7 | .stuck => 8 | .recovered => 9

/-- Node state codes (R173). -/
def nodeStateCode : NodeState → Nat
  | .unused => 0 | .unknown => 1 | .present => 2 | .missing => 3 | .erratic => 4

/-- Outcome codes 01h to 09h (R175). -/
def outcomeCode : FrameOutcome → Byte
  | .ok => 0x01 | .noReply => 0x02 | .shortReply => 0x03 | .crcFail => 0x04 | .framing => 0x05
  | .readback => 0x06 | .lineStuck => 0x07 | .lateData => 0x08 | .cancelled => 0x09

/-- The last outcome byte; 00h is NONE (R175). -/
def lastOutcomeCode : Option FrameOutcome → Byte
  | none => 0x00
  | some o => outcomeCode o

/-- The code of NO_FIT, which appears in ADHOC_END records alone (R175). -/
def noFitCode : Byte := 0x0A

/-- Event kind codes 01h to 08h (R175). -/
def eventKindCode : EventKind → Nat
  | .frameOk => 1 | .frameFail => 2 | .adhocEnd => 3 | .supplyDue => 4 | .cycleMark => 5
  | .scheduleTaken => 6 | .lineChange => 7 | .nodeChange => 8

/-- Result codes (R174). -/
def resultCode : Result → Byte
  | .done => 0x00 | .badArg => 0x01 | .wrongState => 0x02 | .invalidSchedule => 0x03
  | .inUse => 0x04 | .duplicateTag => 0x05 | .badReference => 0x06 | .range => 0x07
  | .queueFull => 0x08 | .alreadyQueued => 0x09 | .notQueued => 0x0A | .notWaiting => 0x0B
  | .tooLate => 0x0C | .lineLow => 0x0D

/-- Table codes (R174). -/
def tableCode : TableId → Byte
  | .descriptor => 0x00 | .slot => 0x01 | .directory => 0x02 | .node => 0x03 | .line => 0x04
  | .adhoc => 0x05

/-- The number of entries of each table (R163). -/
def entryCount : TableId → Nat
  | .descriptor => 64 | .slot => 128 | .directory => 8 | .node => 32 | .line => 2 | .adhoc => 2

/-- The size of each table's window in bytes (R176). -/
def windowSize : TableId → Nat
  | .descriptor => 26 | .slot => 6 | .directory => 4 | .node => 9 | .line => 28 | .adhoc => 10

/-- The detail byte of LINE_CHANGE: cause in bits 7 to 4, new line state in bits 2 to 0 (R175). -/
def lineChangeDetail (cause : Cause) (st : LineState) : Byte :=
  BitVec.ofNat 8 (16 * causeCode cause + lineStateCode st)

/-- The detail byte of NODE_CHANGE: state left in bits 6 to 4, new state in bits 2 to 0 (R175). -/
def nodeChangeDetail (before after : NodeState) : Byte :=
  BitVec.ofNat 8 (16 * nodeStateCode before + nodeStateCode after)

end Sys2Proof.Machine
end

