-- ==== Sys2Proof/Machine/Wire.lean ====
section
/-! DEFINITION. The field line: majority sampling (R3), the character (R4), the tag and control bytes
(R7, R8, R177), the check (R9), the frame times and the fit (R6, R15, R16), and the level the device
drives in each bit time of a frame (R20 to R22, R33). -/

namespace Sys2Proof.Machine

/-- The level of a bit: the level seen by at least two of its three samples (R3). -/
def majority (s : Samples) : Level :=
  if 2 ≤ [s.first, s.second, s.third].count .dominant then .dominant else .recessive

/-- The majority level of each bit of a received character, a set bit being recessive (R3). -/
def majorityBits (first second third : BitVec 9) : BitVec 9 :=
  (first &&& second) ||| (first &&& third) ||| (second &&& third)

/-- The third sample of a bit falls 9/16 of the bit time after the bit began, rounded down to a whole
REFCLK period (R3). -/
def thirdSample (divisor : Nat) : Nat := 9 * divisor / 16

/-- The middle of a bit: 8/16 of the bit time, rounded down as R3 rounds (R3, R4, R90; PRESUMED,
assumption 13). -/
def middleSample (divisor : Nat) : Nat := 8 * divisor / 16

/-- Bit `k` of a character being sent: start bit 0 dominant, data bits 1 to 8 least significant first
with 0 dominant, stop bit 9 recessive (R4). -/
def characterBit (byte : Byte) (k : Nat) : Level :=
  if k = 0 then .dominant
  else if k ≤ 8 then (if byte.getLsbD (k - 1) then .recessive else .dominant)
  else .recessive

/-- The parity of the seven tag bits: true when an odd number of them are ones. -/
def tagParity (tag : BitVec 7) : Bool :=
  ((List.range 7).filter (fun i => tag.getLsbD i)).length % 2 == 1

/-- The tag byte: the tag in bits 6 to 0 and in bit 7 the parity bit that makes the ones odd (R7, R177). -/
def tagByte (tag : BitVec 7) : Byte := BitVec.ofBool (!tagParity tag) ++ tag

/-- The control byte: direction, L − 1 in four bits, frame counter in three (R8, R177). -/
def controlByte (direction : Direction) (length : Nat) (counter : BitVec 3) : Byte :=
  BitVec.ofBool (direction == .push) ++ BitVec.ofNat 4 (length - 1) ++ counter

/-- One shift step of the check: division by x^8 + x^5 + x^3 + x^2 + x + 1 (R9). -/
def crcShift (r : Byte) : Byte :=
  if r.msb then (r <<< 1) ^^^ 0x2F else r <<< 1

/-- The check register advanced over one byte, most significant bit first (R9). -/
def crcByte (r b : Byte) : Byte :=
  (List.range 8).foldl (fun acc _ => crcShift acc) (r ^^^ b)

/-- The check register advanced over a run of bytes (R9). -/
def crcFrom (r : Byte) (bytes : List Byte) : Byte := bytes.foldl crcByte r

/-- The start value of the check register (R9). -/
def crcStart : Byte := 0xFF

/-- The kind of frame a descriptor calls for (R15, R19). -/
def frameKindOf (c : DescriptorConfig) : FrameKind :=
  match c.direction, c.supply with
  | .poll, _ => .poll
  | .push, .stored => .storedPush
  | .push, .deferred => .deferredPush

/-- The header time H = A + M + 20 in bit times (R6). -/
def headerTime (st : LineSettings) : Nat := st.alert + st.mark + 20

/-- The maximum frame time in bit times (R15); the hush frame has length 1. -/
def maxFrameTime (st : LineSettings) (kind : FrameKind) (length : Nat) : Nat :=
  match kind with
  | .poll => headerTime st + st.replySpace + (length + 1) * (10 + st.replyGap)
  | .storedPush => headerTime st + st.pushSpace + (length + 1) * (10 + st.pushGap)
  | .deferredPush => headerTime st + st.supplyWindow + (length + 1) * (10 + st.pushGap)
  | .hush => headerTime st + st.pushSpace + 2 * (10 + st.pushGap)

/-- A frame fits a slot whose length is at least its maximum time plus the guard (R16). -/
def fits (st : LineSettings) (kind : FrameKind) (length slotLength : Nat) : Bool :=
  decide (maxFrameTime st kind length + Config.guardBits ≤ slotLength)

/-- The bytes of the hush frame with its check (R13). -/
def hushBytes : List Byte := [0x7F, 0x80, 0x00, 0xCA]

/-- `bytes` laid over the front of a buffer; the rest of the buffer is kept. -/
def overlay {n : Nat} (bytes : List Byte) (buffer : Vector Byte n) : Vector Byte n :=
  ⟨((bytes ++ buffer.toList.drop bytes.length).take n).toArray, by simp; omega⟩

/-- The byte at a position of a buffer, 00h beyond its end. -/
def byteAt {n : Nat} (buffer : Vector Byte n) (i : Nat) : Byte := (buffer[i]?).getD 0

/-- The bit times the sequencer sends in its present frame state: A in ALERT, M in MARK, two characters
in HEADER, the data part with its gaps in PUSH, none elsewhere (R20, R21, R22, R33). -/
def sentBits (st : LineSettings) (q : Sequencer) : Nat :=
  match q.frameState with
  | .alert => st.alert
  | .mark => st.mark
  | .header => 20
  | .push => let len := q.length.getD 0; (len + 1) * 10 + len * st.pushGap
  | _ => 0

/-- The level the device drives in bit time `bit` of its present frame state; recessive means that it
releases the pin (R1, R20, R21, R22, R33). -/
def drivenLevel (st : LineSettings) (q : Sequencer) (bit : Nat) : Level :=
  match q.frameState with
  | .alert => .dominant
  | .header => characterBit (byteAt q.txBuffer (bit / 10)) (bit % 10)
  | .push =>
    characterBit (byteAt q.txBuffer (2 + bit / (10 + st.pushGap))) (bit % (10 + st.pushGap))
  | _ => .recessive

/-- REFCLK periods from the slot start to the beginning of the present frame state's bit time 0: frame
start, end of alert, end of mark, end of the control character, first push character (R6, R32). The wait of
a deferred push in PUSH_SPACE is counted from the control end, and not from the taking of SUPPLY (DESIGN
CHOICE, assumption 21). -/
def stateBegin (st : LineSettings) (q : Sequencer) : Nat :=
  match q.frameState with
  | .idle | .alert => 0
  | .mark => st.alert * st.divisor
  | .header => (st.alert + st.mark) * st.divisor
  | .replyWait | .supplyWait | .pushSpace => (q.controlEnd.getD 0) * st.divisor
  | .reply => (q.startEdge.or q.lastCharEnd).getD 0
  | .push => q.pushStart.getD 0

/-- The sequencer with its bit position, and in PUSH its character count, as they stand `elapsed` REFCLK
periods after the slot start (R17, R33). In a push gap the bit position runs on from 10 to 9 + J behind the
character before it (DESIGN CHOICE, assumption 20). Once a reply character has been taken, at its stop bit 9, the next move of the
clock gives 0 up to its nominal end, and then the bit time since that end (DESIGN CHOICE, assumption 24). -/
def Sequencer.atTime (st : LineSettings) (elapsed : Nat) (q : Sequencer) : Sequencer :=
  let bits := (elapsed - stateBegin st q) / st.divisor
  match q.frameState with
  | .idle => q
  | .header | .reply => { q with bitPosition := bits % 10 }
  | .push =>
    { q with bitPosition := bits % (10 + st.pushGap),
             charCount := (bits + st.pushGap) / (10 + st.pushGap) }
  | _ => { q with bitPosition := bits }

end Sys2Proof.Machine
end

