-- ==== Sys2Proof/Machine/Flags.lean ====
section
/-! DEFINITION. The flags and levels that follow from the state at every instant and so have no field of
their own: the hold request (R89), INT (R156), the status and line-state registers (R161, R173), the
flags byte of a descriptor and of the LINE window (R176), the elapsed bit times (R176) and the level the
device drives on each line pin (R1). -/

namespace Sys2Proof.Machine

/-- The hold request is active when the hold flag is set, or when the hold pin enable is on and the pin
level is asserted (R89). -/
def LineController.holdRequest (l : LineController) : Bool :=
  l.holdFlag || (l.settings.holdPinEnable && l.pinAsserted)

/-- INT is asserted while the INT enable is set and the count is greater than 0 (R156). -/
def EventUnit.intAsserted (e : EventUnit) : Bool := e.intEnable && !e.queue.isEmpty

/-- The status register 02h: BUSY, COLLIDED, PORT_OPEN and INT in bits 0 to 3 (R161, R173). -/
def State.statusByte (s : State) : Byte :=
  BitVec.ofNat 8 (s.host.busy.toNat + 2 * s.host.collided.toNat + 4 * s.port.isOpen.toNat
    + 8 * s.events.intAsserted.toNat)

/-- A line-state register: line state in bits 2 to 0, frame state in bits 7 to 4 (R173). -/
def LineController.stateByte (l : LineController) : Byte :=
  BitVec.ofNat 8 (lineStateCode l.lineState + 16 * frameStateCode l.seq.frameState)

/-- The flags byte of a descriptor's window (R176). -/
def Descriptor.flagsByte (d : Descriptor) : Byte :=
  BitVec.ofNat 8 (d.unread.toNat + 2 * d.overwritten.toNat + 4 * d.suspect.toNat)

/-- The flags byte of the LINE window (R176). -/
def LineController.flagsByte (l : LineController) : Byte :=
  BitVec.ofNat 8 (l.stopRequest.toNat + 2 * l.holdFlag.toNat + 4 * l.pinAsserted.toNat
    + 8 * l.holdRequest.toNat)

/-- REFCLK periods since the last origin of the line's bit-time base; 0 where there is no origin. -/
def LineController.elapsed (l : LineController) : Nat :=
  match l.slotStart with
  | some origin => l.time - origin
  | none => 0

/-- Whole bit times elapsed since the last origin of the base (R2, R122). -/
def LineController.elapsedBits (l : LineController) : Nat := l.elapsed / l.settings.divisor

/-- The elapsed bit times as the LINE window shows them: stopping at 65535, 0 while OFF (R176). -/
def LineController.shownBits (l : LineController) : Nat :=
  if l.lineState = .off then 0 else min 65535 l.elapsedBits

/-- The kind mask enables kind code k in bit k − 1 (R175). -/
def EventUnit.kindEnabled (e : EventUnit) (k : EventKind) : Bool :=
  e.kindMask.getLsbD (eventKindCode k - 1)

/-- The level the device drives on the line's pin now; recessive means released (R1, R80, R127). -/
def LineController.pin (l : LineController) : Level :=
  if l.monitor.wakePhase = .pulse then .dominant
  else drivenLevel l.settings l.seq ((l.elapsed - stateBegin l.settings l.seq) / l.settings.divisor)

end Sys2Proof.Machine
end

