-- ==== Sys2Proof/Machine/Operands.lean ====
section
/-! DEFINITION. The operand forms of the host side: the arguments of a command (R163, R174), and the
table windows, read out of the port buffer with their range checks and written into it by an open
(R44, R71, R72, R77, R144, R172, R176). -/

namespace Sys2Proof.Machine

/-! ## Commands and their arguments -/

/-- A command whose code and arguments have passed R163. -/
inductive Command where
  | start (x : LineId) (k : Fin 8)
  | stopEnd (x : LineId)
  | stopNow (x : LineId)
  | switch (x : LineId) (k : Fin 8)
  | holdSet (x : LineId)
  | holdClear (x : LineId)
  | wake (x : LineId)
  | clearFault (x : LineId)
  | lineReset (x : LineId)
  | supply (x : LineId) (d : Fin 64)
  | enqueue (x : LineId) (d : Fin 64)
  | cancel (x : LineId) (d : Fin 64)
  | openPeek (t : TableId) (i : Nat)
  | openTake (t : TableId) (i : Nat)
  | commit
  | erase (t : TableId) (i : Nat)
deriving DecidableEq, Repr

/-- A line argument: 00h or 01h (R163). -/
def lineArg (v : Byte) : Option LineId :=
  if v = 0x00 then some .a else if v = 0x01 then some .b else none

/-- An argument below `n`. -/
def indexArg (n : Nat) (v : Byte) : Option (Fin n) :=
  if h : v.toNat < n then some ⟨v.toNat, h⟩ else none

/-- A table code 00h to 05h (R163, R174). -/
def tableArg (v : Byte) : Option TableId :=
  if v = 0x00 then some .descriptor else if v = 0x01 then some .slot
  else if v = 0x02 then some .directory else if v = 0x03 then some .node
  else if v = 0x04 then some .line else if v = 0x05 then some .adhoc else none

/-- A command with a line in ARG0 alone; a failing argument is refused with its register number (R163). -/
def lineForm (a0 : Byte) (make : LineId → Command) : Except Byte Command :=
  match lineArg a0 with
  | none => .error 0x00
  | some x => .ok (make x)

/-- A command with a line in ARG0 and an index below `n` in ARG1, checked in that order (R163). -/
def lineIndexForm (n : Nat) (a0 a1 : Byte) (make : LineId → Fin n → Command) : Except Byte Command :=
  match lineArg a0 with
  | none => .error 0x00
  | some x =>
    match indexArg n a1 with
    | none => .error 0x01
    | some i => .ok (make x i)

/-- A command with a table in ARG0 and an index below its entry count in ARG1 (R163). -/
def tableForm (a0 a1 : Byte) (make : TableId → Nat → Command) : Except Byte Command :=
  match tableArg a0 with
  | none => .error 0x00
  | some t => if a1.toNat < entryCount t then .ok (make t a1.toNat) else .error 0x01

/-- The command unit's check of its latches: the code first, then the arguments in register order. The
error is the DETAIL of BAD_ARG (R163, R174). -/
def decodeCommand (code a0 a1 : Byte) : Except Byte Command :=
  if code = 0x01 then lineIndexForm 8 a0 a1 .start
  else if code = 0x02 then lineForm a0 .stopEnd
  else if code = 0x03 then lineForm a0 .stopNow
  else if code = 0x04 then lineIndexForm 8 a0 a1 .switch
  else if code = 0x05 then lineForm a0 .holdSet
  else if code = 0x06 then lineForm a0 .holdClear
  else if code = 0x07 then lineForm a0 .wake
  else if code = 0x08 then lineForm a0 .clearFault
  else if code = 0x09 then lineForm a0 .lineReset
  else if code = 0x10 then lineIndexForm 64 a0 a1 .supply
  else if code = 0x11 then lineIndexForm 64 a0 a1 .enqueue
  else if code = 0x12 then lineIndexForm 64 a0 a1 .cancel
  else if code = 0x20 then tableForm a0 a1 .openPeek
  else if code = 0x21 then tableForm a0 a1 .openTake
  else if code = 0x22 then .ok .commit
  else if code = 0x23 then tableForm a0 a1 .erase
  else .error 0xFF

/-- The command that the command unit holds for its owner: accepted, valid, and not yet completed
(R162, R163, R164). -/
def State.accepted (s : State) : Option Command :=
  if s.host.busy then
    match decodeCommand s.host.command s.host.latch0 s.host.latch1 with
    | .ok c => some c
    | .error _ => none
  else none

/-! ## Fields of a window -/

/-- The offset of the first field that fails, the fields being listed in window order (R44, R71). -/
def firstFailing : List (Nat × Bool) → Option Byte
  | [] => none
  | (offset, passes) :: rest => if passes then firstFailing rest else some (BitVec.ofNat 8 offset)

/-- A yes/no field (R176). -/
def boolField (v : Byte) : Bool := v == 0x01
/-- A line field (R176). -/
def lineField (v : Byte) : LineId := if v = 0x01 then .b else .a
/-- A field in which FFh stands for NONE (R176). -/
def optionField (n : Nat) (v : Byte) : Option (Fin n) := indexArg n v
/-- Whether a yes/no, line, direction or supply byte holds one of its two codes (R176). -/
def isBit (v : Byte) : Bool := decide (v.toNat ≤ 1)
/-- Whether a number lies in a range. -/
def inRange (low high n : Nat) : Bool := decide (low ≤ n ∧ n ≤ high)

/-- The bytes of a port buffer by position (R166). -/
abbrev Window := Vector Byte 32

/-! ### DESCRIPTOR (26 bytes) -/

/-- The configuration fields that a DESCRIPTOR window holds (R176). -/
def descriptorFields (w : Window) : DescriptorConfig :=
  { inUse := boolField (byteAt w 0), line := lineField (byteAt w 1),
    tag := (byteAt w 2).setWidth 7,
    direction := if byteAt w 3 = 0x01 then .push else .poll,
    length := (byteAt w 4).toNat,
    supply := if byteAt w 5 = 0x01 then .deferred else .stored,
    node := optionField 32 (byteAt w 6),
    notify := if byteAt w 7 = 0x02 then .all else if byteAt w 7 = 0x01 then .fail else .none }

/-- The range check of a descriptor commit (R44). -/
def descriptorRange (w : Window) : Option Byte :=
  firstFailing
    [ (0, boolField (byteAt w 0)),
      (1, isBit (byteAt w 1)),
      (2, inRange 0 126 (byteAt w 2).toNat),
      (3, isBit (byteAt w 3)),
      (4, inRange 1 12 (byteAt w 4).toNat),
      (5, isBit (byteAt w 5) && (byteAt w 3 == 0x01 || byteAt w 5 == 0x00)),
      (6, inRange 0 31 (byteAt w 6).toNat || byteAt w 6 == 0xFF),
      (7, inRange 0 2 (byteAt w 7).toNat) ]

/-- The offset of the first configuration field in which two descriptors differ (R47). -/
def descriptorDifference (c c' : DescriptorConfig) : Option Byte :=
  firstFailing
    [ (0, c.inUse == c'.inUse), (1, c.line == c'.line), (2, c.tag == c'.tag),
      (3, c.direction == c'.direction), (4, c.length == c'.length), (5, c.supply == c'.supply),
      (6, c.node == c'.node), (7, c.notify == c'.notify) ]

/-- The 12 data bytes of a DESCRIPTOR window, positions 8 to 19 (R176). -/
def descriptorData (w : Window) : Vector Byte 12 :=
  overlay ((w.toList.drop 8).take 12) (Vector.replicate 12 0)

/-- Direction codes (R176). -/
def directionCode : Direction → Byte
  | .poll => 0x00
  | .push => 0x01
/-- Supply codes (R176). -/
def supplyCode : Supply → Byte
  | .stored => 0x00
  | .deferred => 0x01
/-- Notify codes (R176). -/
def notifyCode : Notify → Byte
  | .none => 0x00
  | .fail => 0x01
  | .all => 0x02
/-- Ad-hoc state codes (R176). -/
def adhocCode : AdhocView → Byte
  | .none => 0x00
  | .queued => 0x01
  | .inFlight => 0x02

/-- The DESCRIPTOR window of an entry (R54, R176). -/
def descriptorWindow (d : Descriptor) : List Byte :=
  [ boolCode d.config.inUse, lineCode d.config.line, d.config.tag.setWidth 8,
    directionCode d.config.direction, lowByte d.config.length, supplyCode d.config.supply,
    indexCode d.config.node, notifyCode d.config.notify ]
  ++ d.data.toList
  ++ [ lastOutcomeCode d.lastOutcome, lowByte d.stamp.toNat, highByte d.stamp.toNat,
       d.frameCounter.setWidth 8, d.flagsByte, adhocCode d.adhoc ]

/-! ### DIRECTORY (4 bytes) -/

/-- The fields that a DIRECTORY window holds (R176). -/
def directoryFields (w : Window) : DirectoryEntry :=
  { inUse := boolField (byteAt w 0), firstSlot := (byteAt w 1).toNat,
    slotCount := (byteAt w 2).toNat, followOn := optionField 8 (byteAt w 3) }

/-- The range check of a directory commit (R71). -/
def directoryRange (w : Window) : Option Byte :=
  firstFailing
    [ (0, boolField (byteAt w 0)),
      (1, inRange 0 127 (byteAt w 1).toNat),
      (2, inRange 1 128 (byteAt w 2).toNat
            && decide ((byteAt w 1).toNat + (byteAt w 2).toNat ≤ 128)),
      (3, inRange 0 7 (byteAt w 3).toNat || byteAt w 3 == 0xFF) ]

/-- The DIRECTORY window of an entry (R74, R176). -/
def directoryWindow (e : DirectoryEntry) : List Byte :=
  [ boolCode e.inUse, lowByte e.firstSlot, lowByte e.slotCount, indexCode e.followOn ]

/-! ### SLOT (6 bytes) -/

/-- Slot kind codes (R176). -/
def slotKindCode : SlotKind → Byte
  | .empty => 0x00
  | .regular => 0x01
  | .gap => 0x02
  | .mark => 0x03
  | .open => 0x04
  | .hush => 0x05

/-- The slot kind of a code (R176). -/
def slotKindField (v : Byte) : SlotKind :=
  if v = 0x01 then .regular else if v = 0x02 then .gap else if v = 0x03 then .mark
  else if v = 0x04 then .open else if v = 0x05 then .hush else .empty

/-- The fields that a SLOT window holds; the descriptor of a kind other than REGULAR is stored as 0
(R72, R176). -/
def slotFields (w : Window) : Slot :=
  { kind := slotKindField (byteAt w 0), length := twoBytes (byteAt w 1) (byteAt w 2),
    divisor := (byteAt w 3).toNat, phase := (byteAt w 4).toNat,
    descriptor :=
      if slotKindField (byteAt w 0) = .regular then (indexArg 64 (byteAt w 5)).getD 0 else 0 }

/-- The range check of a slot commit (R72). -/
def slotRange (w : Window) : Option Byte :=
  firstFailing
    [ (0, inRange 0 5 (byteAt w 0).toNat),
      (1, inRange 8 4095 (twoBytes (byteAt w 1) (byteAt w 2))),
      (3, [1, 2, 4, 8, 16].contains (byteAt w 3).toNat),
      (4, decide ((byteAt w 4).toNat < (byteAt w 3).toNat)),
      (5, slotKindField (byteAt w 0) != .regular || inRange 0 63 (byteAt w 5).toNat) ]

/-- The SLOT window of an entry (R74, R176). -/
def slotWindow (e : Slot) : List Byte :=
  [ slotKindCode e.kind, lowByte e.length, highByte e.length, lowByte e.divisor, lowByte e.phase,
    lowByte e.descriptor.val ]

/-! ### NODE (9 bytes) -/

/-- The configuration fields that a NODE window holds (R176). -/
def nodeFields (w : Window) : NodeConfig :=
  { inUse := boolField (byteAt w 0), line := lineField (byteAt w 1),
    missThreshold := (byteAt w 2).toNat, errorThreshold := (byteAt w 3).toNat,
    probeDivisor := (byteAt w 4).toNat, notify := boolField (byteAt w 5) }

/-- The range check of a node commit (R144). -/
def nodeRange (w : Window) : Option Byte :=
  firstFailing
    [ (0, boolField (byteAt w 0)),
      (1, isBit (byteAt w 1)),
      (2, inRange 1 15 (byteAt w 2).toNat),
      (3, inRange 1 31 (byteAt w 3).toNat),
      (4, [1, 2, 4, 8, 16, 32, 64, 128].contains (byteAt w 4).toNat),
      (5, isBit (byteAt w 5)) ]

/-- The NODE window of a record (R146, R176). -/
def nodeWindow (n : Node) : List Byte :=
  [ boolCode n.config.inUse, lineCode n.config.line, lowByte n.config.missThreshold,
    lowByte n.config.errorThreshold, lowByte n.config.probeDivisor, boolCode n.config.notify,
    BitVec.ofNat 8 (nodeStateCode n.state), lowByte n.misses, lowByte n.score ]

/-! ### LINE (28 bytes) -/

/-- The settings that a LINE window holds (R176). -/
def settingsFields (w : Window) : LineSettings :=
  { divisor := twoBytes (byteAt w 0) (byteAt w 1), alert := (byteAt w 2).toNat,
    mark := (byteAt w 3).toNat, replySpace := (byteAt w 4).toNat, replyGap := (byteAt w 5).toNat,
    pushSpace := (byteAt w 6).toNat, pushGap := (byteAt w 7).toNat,
    supplyWindow := (byteAt w 8).toNat, stuckLimit := (byteAt w 9).toNat,
    wakePulse := (byteAt w 10).toNat, wakeQualify := (byteAt w 11).toNat,
    recovery := (byteAt w 12).toNat,
    holdPoint := if byteAt w 13 = 0x01 then .cycle else .slot,
    holdPinEnable := boolField (byteAt w 14) }

/-- The range check of a settings commit, and after every field's range the check of the supply window
against the push space (R76, R77). -/
def settingsRange (w : Window) : Option Byte :=
  firstFailing
    [ (0, inRange 80 1666 (twoBytes (byteAt w 0) (byteAt w 1))),
      (2, inRange 12 20 (byteAt w 2).toNat),
      (3, inRange 2 5 (byteAt w 3).toNat),
      (4, inRange 2 15 (byteAt w 4).toNat),
      (5, inRange 0 7 (byteAt w 5).toNat),
      (6, inRange 1 7 (byteAt w 6).toNat),
      (7, inRange 0 3 (byteAt w 7).toNat),
      (8, inRange 4 255 (byteAt w 8).toNat),
      (9, inRange 30 255 (byteAt w 9).toNat),
      (10, inRange 4 16 (byteAt w 10).toNat),
      (11, inRange 2 15 (byteAt w 11).toNat),
      (12, inRange 16 255 (byteAt w 12).toNat),
      (13, isBit (byteAt w 13)),
      (14, isBit (byteAt w 14)),
      (8, decide ((byteAt w 6).toNat ≤ (byteAt w 8).toNat)) ]

/-- Hold point codes (R176). -/
def holdPointCode : HoldPoint → Byte
  | .slot => 0x00
  | .cycle => 0x01
/-- Wake phase codes (R176). -/
def wakePhaseCode : WakePhase → Byte
  | .none => 0x00
  | .pulse => 0x01
  | .recovery => 0x02

/-- The LINE window: settings in bytes 0 to 14, status view in bytes 15 to 27 (R78, R176). -/
def lineWindow (l : LineController) : List Byte :=
  [ lowByte l.settings.divisor, highByte l.settings.divisor, lowByte l.settings.alert,
    lowByte l.settings.mark, lowByte l.settings.replySpace, lowByte l.settings.replyGap,
    lowByte l.settings.pushSpace, lowByte l.settings.pushGap, lowByte l.settings.supplyWindow,
    lowByte l.settings.stuckLimit, lowByte l.settings.wakePulse, lowByte l.settings.wakeQualify,
    lowByte l.settings.recovery, holdPointCode l.settings.holdPoint,
    boolCode l.settings.holdPinEnable,
    0x00, BitVec.ofNat 8 (lineStateCode l.lineState),
    BitVec.ofNat 8 (frameStateCode l.seq.frameState), indexCode l.active, indexCode l.pending,
    lowByte l.slotIndex, lowByte l.cycleCount.toNat, highByte l.cycleCount.toNat, l.flagsByte,
    wakePhaseCode l.monitor.wakePhase, lowByte l.monitor.runCount, lowByte l.shownBits,
    highByte l.shownBits ]

/-! ### ADHOC (10 bytes) -/

/-- The ADHOC window: count, eight positions with FFh beyond the count, in-flight request (R110, R176). -/
def adhocWindow (l : LineController) : List Byte :=
  [ lowByte l.queue.length ]
  ++ ((l.queue.map (fun (d : Fin 64) => lowByte d.val)) ++ List.replicate 8 0xFF).take 8
  ++ [ indexCode l.inFlight ]

end Sys2Proof.Machine
end

