-- ==== Sys2Proof/Machine/Ops.lean ====
section
/-! DEFINITION. The named operations over the state: reading and writing one line, one table entry, one
register; a line's clock; posting an event and the arbiter's taking of a post; completing a command; the
register window. -/

namespace Sys2Proof.Machine

/-! ## Parts of the state -/

/-- The controller of a line. -/
def State.line (s : State) : LineId → LineController
  | .a => s.lineA
  | .b => s.lineB

/-- The state with one line's controller replaced. -/
def State.setLine (s : State) (x : LineId) (l : LineController) : State :=
  match x with
  | .a => { s with lineA := l }
  | .b => { s with lineB := l }

/-- The state with one line's sequencer replaced. -/
def State.setSeq (s : State) (x : LineId) (q : Sequencer) : State :=
  s.setLine x { s.line x with seq := q }

/-- The state with one line's monitor replaced. -/
def State.setMonitor (s : State) (x : LineId) (m : Monitor) : State :=
  s.setLine x { s.line x with monitor := m }

/-- A message descriptor. -/
def State.desc (s : State) (d : Fin 64) : Descriptor := s.descriptors[d]
/-- The state with one descriptor replaced. -/
def State.setDesc (s : State) (d : Fin 64) (v : Descriptor) : State :=
  { s with descriptors := s.descriptors.set d v }

/-- The state with the ad-hoc view of one descriptor replaced (R57). -/
def State.setAdhoc (s : State) (d : Fin 64) (v : AdhocView) : State :=
  s.setDesc d { s.desc d with adhoc := v }

/-- A directory entry. -/
def State.dir (s : State) (k : Fin 8) : DirectoryEntry := s.directory[k]
/-- The state with one directory entry replaced. -/
def State.setDir (s : State) (k : Fin 8) (v : DirectoryEntry) : State :=
  { s with directory := s.directory.set k v }

/-- A slot-memory entry. -/
def State.slot (s : State) (i : Fin 128) : Slot := s.slots[i]
/-- The state with one slot-memory entry replaced. -/
def State.setSlot (s : State) (i : Fin 128) (v : Slot) : State :=
  { s with slots := s.slots.set i v }

/-- A node record. -/
def State.node (s : State) (n : Fin 32) : Node := s.nodes[n]
/-- The state with one node record replaced. -/
def State.setNode (s : State) (n : Fin 32) (v : Node) : State :=
  { s with nodes := s.nodes.set n v }

/-- The state with every node record replaced by a function of itself. -/
def State.mapNodes (s : State) (f : Node → Node) : State :=
  { s with nodes := ⟨(s.nodes.toList.map f).toArray, by simp⟩ }

/-- The state with the command unit replaced. -/
def State.setHost (s : State) (h : HostPort) : State := { s with host := h }
/-- The state with the table port replaced. -/
def State.setPort (s : State) (p : TablePort) : State := { s with port := p }
/-- The state with the event unit replaced. -/
def State.setEvents (s : State) (e : EventUnit) : State := { s with events := e }

/-! ## A line's clock -/

/-- The line with its clock moved forward to the instant `t`, and with it the sequencer's bit position and
push character count, which the clock drives (R17, R33). A clock that stands later is left (DESIGN CHOICE,
assumption 5). -/
def LineController.advanceTo (l : LineController) (t : Nat) : LineController :=
  let l' := { l with time := max l.time t }
  { l' with seq := l'.seq.atTime l'.settings l'.elapsed }

/-- The line with its pulse count as the clock has it: in the PULSE phase it falls from W by 1 at the end of
each bit time of the base (R127). -/
def LineController.countPulse (l : LineController) : LineController :=
  if l.monitor.wakePhase = .pulse then
    { l with
      monitor := { l.monitor with pulseCount := l.settings.wakePulse - l.elapsedBits } }
  else l

/-- The instant `n` REFCLK periods after the origin of the line's bit-time base. -/
def LineController.instant (l : LineController) (n : Nat) : Nat := l.slotStart.getD l.time + n

/-- The line's clock moved to the instant `n` REFCLK periods after the origin of the base. -/
def LineController.reach (l : LineController) (n : Nat) : LineController := l.advanceTo (l.instant n)

/-- The state with a line's clock moved to `n` REFCLK periods after the origin of its base. -/
def State.reach (s : State) (x : LineId) (n : Nat) : State := s.setLine x ((s.line x).reach n)

/-- The line with the origin of its bit-time base set at the instant `t`: the bit time in progress under
the old origin is not judged or sampled, and bit time 0 comes next (R122). -/
def LineController.setOrigin (l : LineController) (t : Nat) : LineController :=
  { l with slotStart := some t, bitsJudged := 0, bitsSampled := 0 }

/-- The bit time of the base that is judged next: the one after the last judged, or the present one where
the clock has gone further (R122). -/
def LineController.nextJudged (l : LineController) : Nat := max l.bitsJudged l.elapsedBits

/-- The bit time of the base in which the HOLD pin is sampled next (R90). -/
def LineController.nextSampled (l : LineController) : Nat := max l.bitsSampled l.elapsedBits

/-- One REFCLK period passes on both lines. -/
def tick (s : State) : State :=
  (s.setLine .a (s.lineA.advanceTo (s.lineA.time + 1)).countPulse).setLine .b
    (s.lineB.advanceTo (s.lineB.time + 1)).countPulse

/-! ## Posting -/

/-- The posts on a poster's path, oldest first (R150). -/
def EventUnit.path (e : EventUnit) : Poster → List Post
  | .lineController .a => e.pathA
  | .lineController .b => e.pathB
  | .messageTable => e.pathTable
  | .nodeMonitor => e.pathNode
  | .commandUnit => e.pathUnit

/-- The event unit with one poster's path replaced. -/
def EventUnit.setPath (e : EventUnit) (p : Poster) (posts : List Post) : EventUnit :=
  match p with
  | .lineController .a => { e with pathA := posts }
  | .lineController .b => { e with pathB := posts }
  | .messageTable => { e with pathTable := posts }
  | .nodeMonitor => { e with pathNode := posts }
  | .commandUnit => { e with pathUnit := posts }

/-- A poster makes a post: it joins the end of the poster's path (R150). -/
def State.post (s : State) (p : Poster) (r : Post) : State :=
  s.setEvents (s.events.setPath p (s.events.path p ++ [r]))

/-- The line controller of `x` posts a record of its line with its cycle count as stamp. -/
def State.postLine (s : State) (x : LineId) (kind : EventKind) (index detail : Byte) : State :=
  s.post (.lineController x)
    { kind := kind, line := some x, index := index, detail := detail, stamp := (s.line x).cycleCount }

/-- The runner posts LINE_CHANGE with the line's present state and a cause (R102). -/
def State.postLineChange (s : State) (x : LineId) (index : Byte) (cause : Cause) : State :=
  s.postLine x .lineChange index (lineChangeDetail cause (s.line x).lineState)

/-! ## The arbiter -/

/-- The entry of a post that the kind mask and the capacity have let through: it joins the tail with the
gap counter as its gap, and the counter returns to 0 (R152). -/
def EventUnit.enter (e : EventUnit) (r : Post) : EventUnit :=
  { e with queue := e.queue ++ [{ post := r, gap := e.gap }], gap := 0 }

/-- The fate of a post at the instant the arbiter takes it: discarded, lost or entered (R152). -/
def EventUnit.decide (e : EventUnit) (r : Post) : EventUnit :=
  if !e.kindEnabled r.kind then e
  else if Config.queueCapacity ≤ e.queue.length then { e with gap := min Config.gapLimit (e.gap + 1) }
  else e.enter r

/-- Whether the front post of a line controller's path waits for a line reset: every post made before the
reset has been taken, and the reset's records have not all been taken (R150; DEDUCED, assumption 8). -/
def EventUnit.waitsForReset (e : EventUnit) (x : LineId) : Bool :=
  e.holds.any (fun h => h.line == x && h.waiting == 0)
    || e.pathUnit.any (fun r => r.line == some x)

/-- The holds after the arbiter has taken one post of the line's controller. -/
def EventUnit.countTaken (e : EventUnit) (x : LineId) : EventUnit :=
  { e with
    holds := e.holds.map (fun h => if h.line = x then { h with waiting := h.waiting - 1 } else h) }

/-- Whether the arbiter can take the front post of a path now (R150). -/
def EventUnit.ready (e : EventUnit) (p : Poster) : Bool :=
  match p with
  | .lineController x => !e.waitsForReset x
  | _ => true

/-- The arbiter takes the post at the front of a path; an empty path, or one that waits for a line reset,
gives it none (R150, R152). Which path it takes from is not modelled (DESIGN CHOICE, assumption 19). -/
def EventUnit.takePost (e : EventUnit) (p : Poster) : EventUnit :=
  match e.path p with
  | [] => e
  | r :: rest =>
    if e.ready p then
      let e' := (e.setPath p rest).decide r
      match p with
      | .lineController x => e'.countTaken x
      | _ => e'
    else e

/-- The first of the held resets of a line, and the holds without it. -/
def splitHold (x : LineId) : List ResetHold → Option (ResetHold × List ResetHold)
  | [] => none
  | h :: rest =>
    if h.line = x then some (h, rest)
    else
      match splitHold x rest with
      | none => none
      | some (h', rest') => some (h', h :: rest')

/-- The command unit puts the records of the oldest held reset of a line on its path, once the arbiter has
taken every post that the line's controller made before the reset (R150). -/
def EventUnit.releaseHold (e : EventUnit) (x : LineId) : EventUnit :=
  match splitHold x e.holds with
  | none => e
  | some (h, rest) =>
    if h.waiting = 0 then { e with pathUnit := e.pathUnit ++ h.records, holds := rest } else e

/-- The command unit holds back the records of a line reset behind the posts now on the path of the
line's controller; a reset without records holds nothing (R150). -/
def EventUnit.hold (e : EventUnit) (x : LineId) (records : List Post) : EventUnit :=
  if records.isEmpty then e
  else
    { e with
      holds := e.holds ++
        [{ line := x, waiting := (e.path (.lineController x)).length, records := records }] }

/-- A pop: the head record is removed if there is one (R155). -/
def EventUnit.popHead (e : EventUnit) : EventUnit := { e with queue := e.queue.tail }

/-! ## The command unit -/

/-- An owner's answer to a command (R164). -/
structure Answer where
  result : Result
  detail : Byte
deriving DecidableEq, Repr

/-- DONE with DETAIL 00h. -/
def Answer.done : Answer := { result := .done, detail := 0x00 }
/-- WRONG_STATE with DETAIL 00h. -/
def Answer.wrongState : Answer := { result := .wrongState, detail := 0x00 }

/-- Completion: RESULT and DETAIL take the answer and BUSY is cleared (R164). -/
def State.complete (s : State) (a : Answer) : State :=
  s.setHost { s.host with busy := false, result := a.result, detail := a.detail }

/-- Completion with a DETAIL that the spec does not state: the next free value (assumption 1). -/
def State.completeFree (s : State) (r : Result) : State :=
  { s.complete { result := r, detail := Config.freeDetail s.freeCount } with
    freeCount := s.freeCount + 1 }

/-- A write to CMD: accepted while BUSY is clear, and completed in the same step with BAD_ARG when the code or
an argument fails, so that no access finds BUSY set for such a command (DEDUCED, assumption 23); ignored with
COLLIDED set while BUSY is set (R162, R163). -/
def HostPort.writeCommand (h : HostPort) (v : Byte) : HostPort :=
  if h.busy then { h with collided := true }
  else
    let h' :=
      { h with collided := false, command := v, latch0 := h.arg0, latch1 := h.arg1, busy := true }
    match decodeCommand v h.arg0 h.arg1 with
    | .ok _ => h'
    | .error detail => { h' with busy := false, result := .badArg, detail := detail }

/-! ## The register window -/

/-- A bus write reaches the device only while RESETn is deasserted (R159). -/
def State.busWrite (s : State) (f : State → State) : State := if s.inReset then s else f s

/-- A write to CMD, 03h (R162). -/
def State.writeCommand (s : State) (v : Byte) : State := s.setHost (s.host.writeCommand v)

/-- A write to 0Ch sets or clears the INT enable by bit 0; the other bits are not held, and read 0 (R156, R173;
DEDUCED, assumption 26). -/
def State.writeIntEnable (s : State) (v : Byte) : State :=
  s.setEvents { s.events with intEnable := v.getLsbD 0 }

/-- A write to 0Dh replaces the kind mask (R157). -/
def State.writeKindMask (s : State) (v : Byte) : State :=
  s.setEvents { s.events with kindMask := v }

/-- A write to 0Fh pops the head record (R155). -/
def State.pop (s : State) : State := s.setEvents s.events.popHead

/-- A port access refused because BUSY is set sets COLLIDED (R165). -/
def State.collide (s : State) : State := s.setHost { s.host with collided := true }

/-- A write to 1Ah sets the pointer to the low five bits of the value (R168), unless BUSY (R165). -/
def State.writePointer (s : State) (v : Byte) : State :=
  if s.host.busy then s.collide else s.setPort { s.port with pointer := v.setWidth 5 }

/-- The pointer after a port data access: the next position, staying at 31 (R168). -/
def nextPointer (p : BitVec 5) : BitVec 5 := if p = 31 then p else p + 1

/-- A write to 1Bh stores the value at the pointer and advances it (R168), unless BUSY (R165). -/
def State.writePortData (s : State) (v : Byte) : State :=
  if s.host.busy then s.collide
  else
    s.setPort { s.port with buffer := s.port.buffer.setIfInBounds s.port.pointer.toNat v,
                            pointer := nextPointer s.port.pointer }

/-- A write to 1Ch closes the port (R170), unless BUSY (R165). -/
def State.closePort (s : State) : State :=
  if s.host.busy then s.collide else s.setPort { s.port with isOpen := false }

/-- A read of 1Bh: the buffer byte at the pointer, which advances (R168); 00h with COLLIDED set while BUSY
(R165); 00h while RESETn is asserted (R159). -/
def State.readPortData (s : State) : State :=
  if s.inReset then { s with readData := 0x00 }
  else if s.host.busy then { s.collide with readData := 0x00 }
  else
    { s.setPort { s.port with pointer := nextPointer s.port.pointer } with
      readData := byteAt s.port.buffer s.port.pointer.toNat }

/-- A write to one register of the window. ARG0 to ARG3 hold the value (R160); the registers with
behaviour of their own act as their rules say (DESIGN CHOICE, assumption 16); every other register ignores
the write. -/
def State.writeRegister (s : State) (address : BitVec 5) (v : Byte) : State :=
  match address.toNat with
  | 0x03 => s.writeCommand v
  | 0x04 => s.setHost { s.host with arg0 := v }
  | 0x05 => s.setHost { s.host with arg1 := v }
  | 0x06 => s.setHost { s.host with arg2 := v }
  | 0x07 => s.setHost { s.host with arg3 := v }
  | 0x0C => s.writeIntEnable v
  | 0x0D => s.writeKindMask v
  | 0x0F => s.pop
  | 0x1A => s.writePointer v
  | 0x1B => s.writePortData v
  | 0x1C => s.closePort
  | _ => s

/-- The seven bytes of the head window: the oldest record, or NONE, none and zeros (R154, R175). -/
def headWindow : List EventRecord → List Byte
  | [] => [0x00, 0xFF, 0x00, 0x00, 0x00, 0x00, 0x00]
  | r :: _ =>
    [ BitVec.ofNat 8 (eventKindCode r.post.kind), recordLineCode r.post.line, r.post.index,
      r.post.detail, lowByte r.post.stamp.toNat, highByte r.post.stamp.toNat, lowByte r.gap ]

/-- The value a read of a register drives on D0 to D7, 00h while RESETn is asserted (R159, R160, R173). -/
def State.readRegister (s : State) (address : BitVec 5) : Byte :=
  if s.inReset then 0x00
  else
    match address.toNat with
    | 0x00 => Config.identity
    | 0x01 => Config.revision
    | 0x02 => s.statusByte
    | 0x03 => s.host.command
    | 0x04 => s.host.arg0
    | 0x05 => s.host.arg1
    | 0x06 => s.host.arg2
    | 0x07 => s.host.arg3
    | 0x08 => resultCode s.host.result
    | 0x09 => s.host.detail
    | 0x0A => s.lineA.stateByte
    | 0x0B => s.lineB.stateByte
    | 0x0C => boolCode s.events.intEnable
    | 0x0D => s.events.kindMask
    | 0x0E => lowByte s.events.queue.length
    | 0x10 => (headWindow s.events.queue)[0]?.getD 0
    | 0x11 => (headWindow s.events.queue)[1]?.getD 0
    | 0x12 => (headWindow s.events.queue)[2]?.getD 0
    | 0x13 => (headWindow s.events.queue)[3]?.getD 0
    | 0x14 => (headWindow s.events.queue)[4]?.getD 0
    | 0x15 => (headWindow s.events.queue)[5]?.getD 0
    | 0x16 => (headWindow s.events.queue)[6]?.getD 0
    | 0x18 => tableCode s.port.table
    | 0x19 => s.port.index
    | 0x1A => s.port.pointer.setWidth 8
    | 0x1B => if s.host.busy then 0x00 else byteAt s.port.buffer s.port.pointer.toNat
    | 0x1C => boolCode s.port.isOpen
    | _ => 0x00

end Sys2Proof.Machine
end

