-- ==== Sys2Proof/Machine/HostRegisters.lean ====
section
/-! DEFINITION. The accesses of the register window: CMD (R162), the event-queue registers (R155 to R157),
the port registers (R165, R168, R170) and every other register (R160). -/

namespace Sys2Proof.Machine

/-- CMD_WRITE (R162, R163). -/
def execCmdWrite (v : Byte) (s : State) : Host.Outcome State Fault Refusal :=
  .next (s.busWrite (fun t => t.writeCommand v))

/-- POP; the value written is ignored (R155). -/
def execPop (_ : Byte) (s : State) : Host.Outcome State Fault Refusal :=
  .next (s.busWrite State.pop)

/-- INT_ENABLE_WRITE (R156). -/
def execIntEnableWrite (v : Byte) (s : State) : Host.Outcome State Fault Refusal :=
  .next (s.busWrite (fun t => t.writeIntEnable v))

/-- KIND_MASK_WRITE (R157). -/
def execKindMaskWrite (v : Byte) (s : State) : Host.Outcome State Fault Refusal :=
  .next (s.busWrite (fun t => t.writeKindMask v))

/-- PORT_POINTER_WRITE (R165, R168). -/
def execPortPointerWrite (v : Byte) (s : State) : Host.Outcome State Fault Refusal :=
  .next (s.busWrite (fun t => t.writePointer v))

/-- PORT_DATA_READ (R159, R165, R168). -/
def execPortDataRead (s : State) : Host.Outcome State Fault Refusal := .next s.readPortData

/-- PORT_DATA_WRITE (R165, R168). -/
def execPortDataWrite (v : Byte) (s : State) : Host.Outcome State Fault Refusal :=
  .next (s.busWrite (fun t => t.writePortData v))

/-- PORT_STATE_WRITE; the value written is ignored (R165, R170). -/
def execPortStateWrite (_ : Byte) (s : State) : Host.Outcome State Fault Refusal :=
  .next (s.busWrite State.closePort)

/-- REGISTER_WRITE (R160). -/
def execRegisterWrite (address : BitVec 5) (v : Byte) (s : State) :
    Host.Outcome State Fault Refusal :=
  .next (s.busWrite (fun t => t.writeRegister address v))

end Sys2Proof.Machine
end

