-- ==== Sys2Proof/Machine/Store.lean ====
section
/-! DEFINITION. The schedule store and the tables as their owners judge them: closures (R64), locks (R42,
R69), validation (R65 to R67), and the commits and erases of every table (R44 to R49, R71 to R73, R77,
R144, R145), with the opens (R54, R55, R74, R78, R110, R146, R167). -/

namespace Sys2Proof.Machine

/-! ## Closures and locks -/

/-- The chain order of a closure from schedule `k`, `seen` being the schedules reached before it (R64). -/
def closureFrom (directory : Vector DirectoryEntry 8) : Nat → List (Fin 8) → Fin 8 → List (Fin 8)
  | 0, seen, _ => seen
  | fuel + 1, seen, k =>
    match directory[k].followOn with
    | none => seen ++ [k]
    | some j => if j ∈ seen ++ [k] then seen ++ [k] else closureFrom directory fuel (seen ++ [k]) j

/-- The closure of a schedule in chain order: it holds 1 to 8 schedules (R64). -/
def State.closure (s : State) (k : Fin 8) : List (Fin 8) := closureFrom s.directory 8 [] k

/-- The closure of an active or pending schedule; none has an empty one. -/
def State.closureOf (s : State) : Option (Fin 8) → List (Fin 8)
  | none => []
  | some k => s.closure k

/-- A line's part of the locked closure: the closures of its active and pending schedules (R81). -/
def State.lineClosure (s : State) (x : LineId) : List (Fin 8) :=
  s.closureOf (s.line x).active ++ s.closureOf (s.line x).pending

/-- The locked closure of the device (R69). -/
def State.lockedClosure (s : State) : List (Fin 8) := s.lineClosure .a ++ s.lineClosure .b

/-- Whether a slot-memory entry lies in the range of a directory entry (R60). -/
def DirectoryEntry.covers (e : DirectoryEntry) (i : Fin 128) : Bool :=
  decide (e.firstSlot ≤ i.val ∧ i.val < e.firstSlot + e.slotCount)

/-- The slot-memory entries of a directory entry's range in ascending order (R60). -/
def DirectoryEntry.range (e : DirectoryEntry) : List (Fin 128) := (List.finRange 128).filter e.covers

/-- A directory entry is locked while its schedule lies in the locked closure (R69). -/
def State.directoryLocked (s : State) (k : Fin 8) : Bool := s.lockedClosure.contains k

/-- A slot entry is locked while it lies in the range of some schedule of the locked closure (R69). -/
def State.slotLocked (s : State) (i : Fin 128) : Bool :=
  s.lockedClosure.any (fun k => (s.dir k).covers i)

/-- The lowest-numbered schedule of the locked closure whose range contains the slot (R72). -/
def State.slotHolder (s : State) (i : Fin 128) : Option (Fin 8) :=
  (List.finRange 8).find? (fun k => s.lockedClosure.contains k && (s.dir k).covers i)

/-- Whether a REGULAR slot of some schedule of the locked closure names the descriptor (R42). -/
def State.namedInClosure (s : State) (d : Fin 64) : Bool :=
  (List.finRange 128).any
    (fun i => (s.slot i).kind == .regular && (s.slot i).descriptor == d && s.slotLocked i)

/-- Whether the descriptor's ad-hoc state is QUEUED or IN_FLIGHT (R42). -/
def State.adhocHeld (s : State) (d : Fin 64) : Bool := (s.desc d).adhoc != .none

/-- The descriptor lock (R42). -/
def State.descriptorLocked (s : State) (d : Fin 64) : Bool := s.namedInClosure d || s.adhocHeld d

/-! ## Validation -/

/-- Whether a slot passes validation for a line: its kind, its descriptor's line, its fit (R65 to R67). -/
def State.slotPasses (s : State) (x : LineId) (i : Fin 128) : Bool :=
  match (s.slot i).kind with
  | .empty => false
  | .gap | .mark | .open => true
  | .hush => fits (s.line x).settings .hush 1 (s.slot i).length
  | .regular =>
    let c := (s.desc (s.slot i).descriptor).config
    c.inUse && c.line == x && fits (s.line x).settings (frameKindOf c) c.length (s.slot i).length

/-- The DETAIL with which one schedule fails validation, if it does: 80h + its number when it is not in
use, else the number of its first failing slot (R65). -/
def State.scheduleFailure (s : State) (x : LineId) (k : Fin 8) : Option Byte :=
  if (s.dir k).inUse then
    ((s.dir k).range.find? (fun i => !s.slotPasses x i)).map (fun i => BitVec.ofNat 8 i.val)
  else some (BitVec.ofNat 8 (0x80 + k.val))

/-- The DETAIL with which validation of a schedule for a line fails, if it does: the closure is examined
in chain order (R65). -/
def State.validationFailure (s : State) (x : LineId) (k : Fin 8) : Option Byte :=
  (s.closure k).findSome? (s.scheduleFailure x)

/-! ## Commits -/

/-- The lowest in-use descriptor that has a property. -/
def State.findDescriptor (s : State) (p : Fin 64 → DescriptorConfig → Bool) : Option (Fin 64) :=
  (List.finRange 64).find? (fun d => (s.desc d).config.inUse && p d (s.desc d).config)

/-- The second check of a descriptor commit: a named node is in use and on the buffer's line; the number
of a node that is not (R45). -/
def State.badNode (s : State) (c : DescriptorConfig) : Option Byte :=
  match c.node with
  | none => none
  | some n =>
    if (s.node n).config.inUse && (s.node n).config.line == c.line then none
    else some (BitVec.ofNat 8 n.val)

/-- The third check: another in-use descriptor with the same line and tag, the lowest (R46). -/
def State.duplicateTag (s : State) (d : Fin 64) (c : DescriptorConfig) : Option Byte :=
  (s.findDescriptor (fun d' c' => d' != d && c'.line == c.line && c'.tag == c.tag)).map
    (fun d' => BitVec.ofNat 8 d'.val)

/-- The fourth check: a locked descriptor keeps every configuration field (R47). -/
def State.lockedDifference (s : State) (d : Fin 64) (c : DescriptorConfig) : Option Byte :=
  if s.descriptorLocked d then descriptorDifference (s.desc d).config c else none

/-- The refusal of a descriptor commit, by the first of the four checks that fails (R44 to R47). -/
def State.descriptorRefusal (s : State) (d : Fin 64) (w : Window) : Option Answer :=
  match descriptorRange w with
  | some o => some { result := .range, detail := o }
  | none =>
    match s.badNode (descriptorFields w) with
    | some n => some { result := .badReference, detail := n }
    | none =>
      match s.duplicateTag d (descriptorFields w) with
      | some d' => some { result := .duplicateTag, detail := d' }
      | none =>
        match s.lockedDifference d (descriptorFields w) with
        | some o => some { result := .inUse, detail := o }
        | none => none

/-- A descriptor commit: the configuration, and for a PUSH the data (R48). -/
def State.commitDescriptor (s : State) (d : Fin 64) (w : Window) : State × Answer :=
  match s.descriptorRefusal d w with
  | some a => (s, a)
  | none =>
    (s.setDesc d
      { s.desc d with
        config := descriptorFields w,
        data := if (descriptorFields w).direction = .push then descriptorData w else (s.desc d).data },
     .done)

/-- A directory commit: range, then lock (R71). -/
def State.commitDirectory (s : State) (k : Fin 8) (w : Window) : State × Answer :=
  match directoryRange w with
  | some o => (s, { result := .range, detail := o })
  | none =>
    if s.directoryLocked k then (s, { result := .inUse, detail := BitVec.ofNat 8 k.val })
    else (s.setDir k (directoryFields w), .done)

/-- The IN_USE answer for a locked slot entry (R72). -/
def State.slotInUse (s : State) (i : Fin 128) : Answer :=
  { result := .inUse, detail := indexCode (s.slotHolder i) }

/-- A slot commit: range, then lock (R72). -/
def State.commitSlot (s : State) (i : Fin 128) (w : Window) : State × Answer :=
  match slotRange w with
  | some o => (s, { result := .range, detail := o })
  | none =>
    if s.slotLocked i then (s, s.slotInUse i) else (s.setSlot i (slotFields w), .done)

/-- The lowest in-use descriptor that names a node (R144, R145). -/
def State.nodeUser (s : State) (n : Fin 32) : Option (Fin 64) :=
  s.findDescriptor (fun _ c => c.node == some n)

/-- A node commit: range, then line; it sets the state to UNKNOWN and both counters to 0 (R144). -/
def State.commitNode (s : State) (n : Fin 32) (w : Window) : State × Answer :=
  match nodeRange w with
  | some o => (s, { result := .range, detail := o })
  | none =>
    let fresh := s.setNode n { config := nodeFields w, state := .unknown, misses := 0, score := 0 }
    if (s.node n).config.inUse && (nodeFields w).line != (s.node n).config.line then
      match s.nodeUser n with
      | some d => (s, { result := .inUse, detail := BitVec.ofNat 8 d.val })
      | none => (fresh, .done)
    else (fresh, .done)

/-- A settings commit: state, then range, then supply window (R77). -/
def State.commitSettings (s : State) (x : LineId) (w : Window) : State × Answer :=
  if (s.line x).lineState = .off then
    match settingsRange w with
    | some o => (s, { result := .range, detail := o })
    | none => (s.setLine x { s.line x with settings := settingsFields w }, .done)
  else (s, .wrongState)

/-! ## Erases -/

/-- The DETAIL of an erase refused for a locked descriptor: bit 0 a REGULAR slot in a closure, bit 1 its
ad-hoc state (R49). -/
def State.lockDetail (s : State) (d : Fin 64) : Byte :=
  BitVec.ofNat 8 ((s.namedInClosure d).toNat + 2 * (s.adhocHeld d).toNat)

/-- An erase of a descriptor (R49). -/
def State.eraseDescriptor (s : State) (d : Fin 64) : State × Answer :=
  if s.descriptorLocked d then (s, { result := .inUse, detail := s.lockDetail d })
  else (s.setDesc d .initial, .done)

/-- An erase of a directory entry (R73). -/
def State.eraseDirectory (s : State) (k : Fin 8) : State × Answer :=
  if s.directoryLocked k then (s, { result := .inUse, detail := BitVec.ofNat 8 k.val })
  else (s.setDir k .initial, .done)

/-- An erase of a slot entry (R73). -/
def State.eraseSlot (s : State) (i : Fin 128) : State × Answer :=
  if s.slotLocked i then (s, s.slotInUse i) else (s.setSlot i .initial, .done)

/-- An erase of a node record: an unused node then shows the power-on values, as R145 and the third sentence of
R136 have it, and not its last commit (DEDUCED, assumption 22). -/
def State.eraseNode (s : State) (n : Fin 32) : State × Answer :=
  if (s.node n).config.inUse then
    match s.nodeUser n with
    | some d => (s, { result := .inUse, detail := BitVec.ofNat 8 d.val })
    | none => (s.setNode n .initial, .done)
  else (s.setNode n .initial, .done)

/-- An erase of a line's settings record (R77). -/
def State.eraseSettings (s : State) (x : LineId) : State × Answer :=
  if (s.line x).lineState = .off then
    (s.setLine x { s.line x with settings := .initial }, .done)
  else (s, .wrongState)

/-! ## The table port -/

/-- Entry 0 of the LINE and ADHOC tables is line A, entry 1 line B (R77, R110). -/
def lineEntry (i : Nat) : LineId := if i = 0 then .a else .b

/-- An index as an entry of a table of `n` entries; an index that no command can carry falls to entry 0. -/
def entry (n : Nat) (h : 0 < n) (i : Nat) : Fin n := if k : i < n then ⟨i, k⟩ else ⟨0, h⟩

/-- The window of a table entry as its owner copies it at one instant (R54, R74, R78, R110, R146). -/
def State.window (s : State) (t : TableId) (i : Nat) : List Byte :=
  match t with
  | .descriptor => descriptorWindow (s.desc (entry 64 (by decide) i))
  | .slot => slotWindow (s.slot (entry 128 (by decide) i))
  | .directory => directoryWindow (s.dir (entry 8 (by decide) i))
  | .node => nodeWindow (s.node (entry 32 (by decide) i))
  | .line => lineWindow (s.line (lineEntry i))
  | .adhoc => adhocWindow (s.line (lineEntry i))

/-- The port after a successful open: the copy in the buffer with 00h beyond the window's size, table and
index as given, open, pointer 0 (R167). -/
def State.openPort (s : State) (t : TableId) (i : Nat) : State :=
  s.setPort
    { isOpen := true, table := t, index := BitVec.ofNat 8 i, pointer := 0,
      buffer := overlay (s.window t i) (Vector.replicate 32 0) }

/-- The DONE answer of an open: DETAIL is the window size (R167). -/
def openAnswer (t : TableId) : Answer := { result := .done, detail := BitVec.ofNat 8 (windowSize t) }

/-- The clearing of unread and overwritten that OPEN_TAKE makes on a descriptor (R55); no other table
holds freshness flags (R74, R78, R110, R146). -/
def State.takeFlags (s : State) (t : TableId) (i : Nat) : State :=
  match t with
  | .descriptor =>
    let d := entry 64 (by decide) i
    s.setDesc d { s.desc d with unread := false, overwritten := false }
  | _ => s

/-- The owner's judgement of the open buffer (R169). -/
def State.commitPort (s : State) : State × Answer :=
  if s.port.isOpen then
    match s.port.table with
    | .descriptor => s.commitDescriptor (entry 64 (by decide) s.port.index.toNat) s.port.buffer
    | .slot => s.commitSlot (entry 128 (by decide) s.port.index.toNat) s.port.buffer
    | .directory => s.commitDirectory (entry 8 (by decide) s.port.index.toNat) s.port.buffer
    | .node => s.commitNode (entry 32 (by decide) s.port.index.toNat) s.port.buffer
    | .line => s.commitSettings (lineEntry s.port.index.toNat) s.port.buffer
    | .adhoc => (s, .wrongState)
  else (s, .wrongState)

/-- The owner's judgement of an erase (R170). -/
def State.eraseEntry (s : State) (t : TableId) (i : Nat) : State × Answer :=
  match t with
  | .descriptor => s.eraseDescriptor (entry 64 (by decide) i)
  | .slot => s.eraseSlot (entry 128 (by decide) i)
  | .directory => s.eraseDirectory (entry 8 (by decide) i)
  | .node => s.eraseNode (entry 32 (by decide) i)
  | .line => s.eraseSettings (lineEntry i)
  | .adhoc => (s, .wrongState)

end Sys2Proof.Machine
end

