-- ==== Sys2Proof/Machine/Frame.lean ====
section
/-! DEFINITION. The course of a frame: its start (R18, R19), its end and its report (R37, R38), and what
the message table (R51 to R53), the node monitor (R138 to R141) and the runner (R116, R123) do with it. -/

namespace Sys2Proof.Machine

/-! ## Frame start -/

/-- The sequencer at a frame start: source, descriptor, kind and length recorded, the transmit buffer and
the running check loaded, ALERT entered with the counts at 0 (R18, R19). -/
def Sequencer.begin (q : Sequencer) (source : FrameSource) (descriptor : Option (Fin 64))
    (kind : FrameKind) (length : Nat) (bytes : List Byte) (check : Byte) : Sequencer :=
  { q with
    frameState := .alert, source := some source, descriptor := descriptor, kind := some kind,
    length := some length, txBuffer := overlay bytes q.txBuffer, runningCheck := check,
    bitPosition := 0, charCount := 0, controlEnd := none, supplyRequest := none,
    startEdge := none, lastCharEnd := none, pushStart := none, lookAgain := none }

/-- The tag and control bytes of a descriptor's next frame (R7, R8, R19). -/
def headerBytes (v : Descriptor) : List Byte :=
  [tagByte v.config.tag, controlByte v.config.direction v.config.length v.frameCounter]

/-- The first L bytes of a descriptor's data buffer (R40). -/
def messageBytes (v : Descriptor) (length : Nat) : List Byte := v.data.toList.take length

/-- The sequencer at the start of a frame of a descriptor: a stored push takes its data and its check at
this moment, a poll and a deferred push load the header alone (R19). The running check stands at its final
value from here where every byte is known (DEDUCED, assumption 18). -/
def Sequencer.beginDescriptor (q : Sequencer) (source : FrameSource) (d : Fin 64) (v : Descriptor) :
    Sequencer :=
  let body := headerBytes v ++ messageBytes v v.config.length
  match frameKindOf v.config with
  | .storedPush =>
    q.begin source (some d) .storedPush v.config.length (body ++ [crcFrom crcStart body])
      (crcFrom crcStart body)
  | kind =>
    q.begin source (some d) kind v.config.length (headerBytes v) (crcFrom crcStart (headerBytes v))

/-- The sequencer at the start of a hush frame (R13, R19). -/
def Sequencer.beginHush (q : Sequencer) : Sequencer :=
  q.begin .hush none .hush 1 hushBytes (crcFrom crcStart (hushBytes.take 3))

/-- The runner hands the line's sequencer a frame start for a descriptor (R18). -/
def State.startFrame (s : State) (x : LineId) (source : FrameSource) (d : Fin 64) : State :=
  s.setSeq x ((s.line x).seq.beginDescriptor source d (s.desc d))

/-- The runner hands the line's sequencer a HUSH frame start (R18, R123). -/
def State.startHush (s : State) (x : LineId) : State := s.setSeq x (s.line x).seq.beginHush

/-! ## The report -/

/-- A frame report (R37). -/
structure FrameReport where
  line       : LineId
  source     : FrameSource
  descriptor : Option (Fin 64)
  kind       : FrameKind
  outcome    : FrameOutcome
  reply      : List Byte
  stamp      : Count16
deriving DecidableEq, Repr

/-- The descriptor after a report: an OK poll replaces the data and sets the flags, `erratic` being whether
the descriptor's node is ERRATIC (R51); any other report writes outcome and stamp alone (R52). -/
def Descriptor.report (v : Descriptor) (r : FrameReport) (erratic : Bool) : Descriptor :=
  if r.kind = .poll ∧ r.outcome = .ok then
    { v with data := overlay r.reply v.data, overwritten := v.overwritten || v.unread,
             unread := true, suspect := erratic, lastOutcome := some .ok, stamp := r.stamp }
  else { v with lastOutcome := some r.outcome, stamp := r.stamp }

/-- Whether the descriptor's node is ERRATIC at this instant (R51, R143). -/
def State.nodeErratic (s : State) (v : Descriptor) : Bool :=
  match v.config.node with
  | none => false
  | some n => (s.node n).state == .erratic

/-- Whether a scheduled frame with this outcome is posted under a notify field (R53). -/
def Notify.asks (n : Notify) (o : FrameOutcome) : Bool :=
  match n with
  | .none => false
  | .fail => o != .ok
  | .all => true

/-- The message table's post for a scheduled frame (R53). -/
def State.postFrame (s : State) (d : Fin 64) (r : FrameReport) : State :=
  if (s.desc d).config.notify.asks r.outcome then
    s.post .messageTable
      { kind := if r.outcome = .ok then .frameOk else .frameFail,
        line := some (s.desc d).config.line, index := BitVec.ofNat 8 d.val,
        detail := outcomeCode r.outcome, stamp := r.stamp }
  else s

/-- Whether a frame came from a slot of the schedule. -/
def FrameSource.isScheduled : FrameSource → Bool
  | .scheduled _ => true
  | _ => false

/-- The message table applies a report to its descriptor and, for a scheduled frame, posts (R51 to R53). -/
def State.tableReport (s : State) (d : Fin 64) (r : FrameReport) : State :=
  let s' := s.setDesc d ((s.desc d).report r (s.nodeErratic (s.desc d)))
  if r.source.isScheduled then s'.postFrame d r else s'

/-- The counters of a node after a counted outcome (R139). -/
def Node.counted (n : Node) (o : FrameOutcome) : Node :=
  match o with
  | .ok => { n with misses := 0, score := n.score - 1 }
  | .noReply => { n with misses := min 255 (n.misses + 1) }
  | .shortReply | .crcFail | .framing => { n with misses := 0, score := min 31 (n.score + 2) }
  | _ => n

/-- The state of a node by its counters after counting, its state before and the outcome (R140). -/
def Node.evaluated (n : Node) (o : FrameOutcome) : NodeState :=
  if n.config.missThreshold ≤ n.misses then .missing
  else if n.config.errorThreshold ≤ n.score ∨ (n.state = .erratic ∧ 0 < n.score) then .erratic
  else if o = .noReply then n.state
  else .present

/-- Whether an outcome tells of the station: READBACK, LINE_STUCK and CANCELLED change nothing (R138). -/
def FrameOutcome.counts : FrameOutcome → Bool
  | .ok | .noReply | .shortReply | .crcFail | .framing => true
  | _ => false

/-- A node after a counted report (R138 to R140). -/
def Node.report (n : Node) (o : FrameOutcome) : Node :=
  if o.counts then { n.counted o with state := (n.counted o).evaluated o } else n

/-- The node monitor takes a report of a poll whose descriptor names the node, and posts NODE_CHANGE when
the state changes and the node's notify is yes (R138 to R141). -/
def State.nodeReport (s : State) (n : Fin 32) (r : FrameReport) : State :=
  let before := s.node n
  let after := before.report r.outcome
  let s' := s.setNode n after
  if after.state ≠ before.state ∧ after.config.notify = true then
    s'.post .nodeMonitor
      { kind := .nodeChange, line := some after.config.line, index := BitVec.ofNat 8 n.val,
        detail := nodeChangeDetail before.state after.state, stamp := r.stamp }
  else s'

/-- The node monitor's part of a report: polls whose descriptor names a node reach it (R38, R138). -/
def State.monitorReport (s : State) (d : Fin 64) (r : FrameReport) : State :=
  if r.kind = .poll then
    match (s.desc d).config.node with
    | none => s
    | some n => s.nodeReport n r
  else s

/-- The runner ends an ad-hoc request: in-flight request and ad-hoc state none, ADHOC_END posted (R116). -/
def State.endAdhoc (s : State) (x : LineId) (d : Fin 64) (o : FrameOutcome) : State :=
  ((s.setLine x { s.line x with inFlight := none }).setAdhoc d .none).postLine x .adhocEnd
    (BitVec.ofNat 8 d.val) (outcomeCode o)

/-- The runner's part of a hush report: OK is kept for the slot end, anything else is posted (R123). -/
def State.endHush (s : State) (x : LineId) (o : FrameOutcome) : State :=
  if o = .ok then s.setLine x { s.line x with hushOk := true }
  else s.postLine x .frameFail 0xFF (outcomeCode o)

/-- A report delivered to the message table, then the node monitor, then the runner (R38), all in the one step
that ends the frame, so that no snapshot falls between the table's application and the runner's step (R116;
DEDUCED, assumption 25). -/
def State.deliver (s : State) (r : FrameReport) : State :=
  match r.descriptor with
  | some d =>
    let s' := (s.tableReport d r).monitorReport d r
    if r.source = .adHoc then s'.endAdhoc r.line d r.outcome else s'
  | none => s.endHush r.line r.outcome

/-- The sequencer after a frame has ended (R37). -/
def Sequencer.ended (q : Sequencer) : Sequencer :=
  { q with
    frameState := .idle, source := none, descriptor := none, kind := none, length := none,
    controlEnd := none, supplyRequest := none, startEdge := none, lastCharEnd := none,
    pushStart := none, lookAgain := none }

/-- The report of the frame in flight, if one is (R37). -/
def State.frameReport (s : State) (x : LineId) (o : FrameOutcome) (reply : List Byte) :
    Option FrameReport :=
  let l := s.line x
  match l.seq.source, l.seq.kind with
  | some source, some kind =>
    some { line := x, source := source, descriptor := l.seq.descriptor, kind := kind, outcome := o,
           reply := reply, stamp := l.cycleCount }
  | _, _ => none

/-- The frame in flight ends with an outcome: the sequencer returns to IDLE and its report is delivered. A
line without a frame in flight is left as it is (R37, R38). -/
def State.endFrame (s : State) (x : LineId) (o : FrameOutcome) (reply : List Byte) : State :=
  if (s.line x).seq.frameState = .idle then s
  else
    let s' := s.setSeq x (s.line x).seq.ended
    match s.frameReport x o reply with
    | some r => s'.deliver r
    | none => s'

end Sys2Proof.Machine
end

