-- ==== Sys2Proof/Machine/Runner.lean ====
section
/-! DEFINITION. The schedule runner and the controller's state changes: slot starts (R85 to R87, R114),
cycle-boundary processing (R93, R94), hold and release (R89 to R91, R95), going OFF (R84), FAULT (R131)
and the line reset (R101). -/

namespace Sys2Proof.Machine

/-! ## Slot start -/

/-- The slot-memory entry at a position of a schedule, if it lies inside slot memory (R60). -/
def State.slotAt (s : State) (k : Fin 8) (position : Nat) : Option (Fin 128) :=
  if h : (s.dir k).firstSlot + position < 128 then some ⟨(s.dir k).firstSlot + position, h⟩ else none

/-- The slot-memory entry of the position a line is at (R82). -/
def State.currentSlot (s : State) (x : LineId) : Option (Fin 128) :=
  match (s.line x).active with
  | none => none
  | some k => s.slotAt k (s.line x).slotIndex

/-- The slot number of a line's position as a record's index (R102). -/
def State.positionCode (s : State) (x : LineId) : Byte := indexCode (s.currentSlot x)

/-- A slot runs when the cycle count modulo its divisor equals its phase (R62). -/
def Slot.runs (e : Slot) (count : Count16) : Bool := count.toNat % e.divisor == e.phase

/-- Probe gating: a slot whose descriptor names a MISSING node runs only in cycles whose count modulo the
node's probe divisor is 0 (R86, R142). -/
def State.gateOpen (s : State) (d : Fin 64) (count : Count16) : Bool :=
  match (s.desc d).config.node with
  | none => true
  | some n => (s.node n).state != .missing || count.toNat % (s.node n).config.probeDivisor == 0

/-- An OPEN slot that runs serves the ad-hoc queue: requests from the head that do not fit leave it with
NO_FIT; the first that fits becomes the in-flight request and its frame starts (R114). -/
def State.serve (s : State) (x : LineId) (slotLength : Nat) : List (Fin 64) → State
  | [] => s.setLine x { s.line x with queue := [] }
  | d :: rest =>
    let c := (s.desc d).config
    if fits (s.line x).settings (frameKindOf c) c.length slotLength then
      ((s.setLine x { s.line x with queue := rest, inFlight := some d }).setAdhoc d .inFlight).startFrame
        x .adHoc d
    else
      State.serve
        (((s.setLine x { s.line x with queue := rest }).setAdhoc d .none).postLine x .adhocEnd
          (BitVec.ofNat 8 d.val) noFitCode)
        x slotLength rest

/-- The work of a slot that runs, by its kind (R61, R86, R87). -/
def State.slotWork (s : State) (x : LineId) (i : Fin 128) : State :=
  let e := s.slot i
  match e.kind with
  | .empty | .gap => s
  | .regular =>
    if s.gateOpen e.descriptor (s.line x).cycleCount then
      s.startFrame x (.scheduled i) e.descriptor
    else s
  | .mark => s.postLine x .cycleMark (BitVec.ofNat 8 i.val) (indexCode (s.line x).active)
  | .open => s.serve x e.length (s.line x).queue
  | .hush => s.startHush x

/-- A slot start at the instant `t`: the origin of the base is set, the slot entry is read, and its work is
done if it runs in this cycle (R85). -/
def State.beginSlot (s : State) (x : LineId) (t : Nat) : State :=
  let s' := s.setLine x { (s.line x).setOrigin t with hushOk := false }
  match s'.currentSlot x with
  | none => s'
  | some i => if (s'.slot i).runs (s'.line x).cycleCount then s'.slotWork x i else s'

/-! ## Going OFF -/

/-- What going OFF does to the controller (R84, R121). The slot start becomes absent
(DEDUCED, assumption 6). -/
def LineController.wentOff (l : LineController) : LineController :=
  { l with
    lineState := .off, active := none, pending := none, stopRequest := false, slotIndex := 0,
    monitor := .off, pinAsserted := false, slotStart := none, hushOk := false, bitsJudged := 0,
    bitsSampled := 0 }

/-- The line goes OFF and LINE_CHANGE OFF is posted with its cause (R84, R102). -/
def State.goOff (s : State) (x : LineId) (cause : Cause) : State :=
  (s.setLine x (s.line x).wentOff).postLineChange x 0xFF cause

/-! ## Cycle-boundary processing -/

/-- A schedule becomes active: the cycle count is set to 0 and SCHEDULE_TAKEN is posted with the schedule
active before, FFh for none, as detail (R94, R103). -/
def State.takeSchedule (s : State) (x : LineId) (k : Fin 8) : State :=
  (s.setLine x { s.line x with active := some k, cycleCount := 0 }).postLine x .scheduleTaken
    (BitVec.ofNat 8 k.val) (indexCode (s.line x).active)

/-- Steps 2 and 3: a pending schedule becomes active, or else the active schedule's follow-on does where
step 3 applies (R94). -/
def State.changeSchedule (s : State) (x : LineId) (followOns : Bool) : State :=
  match (s.line x).pending with
  | some k =>
    (s.setLine x { s.line x with pending := none }).takeSchedule x k
  | none =>
    match (s.line x).active with
    | none => s
    | some k =>
      match (s.dir k).followOn with
      | some j => if followOns then s.takeSchedule x j else s
      | none => s

/-- The line goes HELD at its slot index, and LINE_CHANGE HELD is posted with the slot number of the held
position (R91, R94). The base keeps its origin (DEDUCED, assumption 12). -/
def State.goHeld (s : State) (x : LineId) (position : Nat) : State :=
  let s' := s.setLine x { s.line x with lineState := .held, slotIndex := position }
  s'.postLineChange x (s'.positionCode x) .hold

/-- The line goes RUNNING with a LINE_CHANGE of this cause, posted before the slot begins (R91, R94). -/
def State.goRunning (s : State) (x : LineId) (cause : Cause) : State :=
  (s.setLine x { s.line x with lineState := .running }).postLineChange x 0xFF cause

/-- Step 5: slot 0 begins at the instant `t`; a line that was not RUNNING goes RUNNING first (R94). -/
def State.beginCycle (s : State) (x : LineId) (t : Nat) (cause : Cause) : State :=
  let s' := s.setLine x { s.line x with slotIndex := 0 }
  if (s'.line x).lineState = .running then s'.beginSlot x t
  else (s'.goRunning x cause).beginSlot x t

/-- Cycle-boundary processing at the instant `t`: stop, switch, follow-on, hold, begin, in this order. Step
3 is left out at a release from HELD (R94, R95); `cause` is the one a line that goes RUNNING gives. -/
def State.boundary (s : State) (x : LineId) (t : Nat) (followOns : Bool) (cause : Cause) : State :=
  if (s.line x).stopRequest || (s.line x).lineState == .draining then s.goOff x .stopped
  else
    let s' := s.changeSchedule x followOns
    if ((s'.line x).lineState == .running || (s'.line x).lineState == .waking)
        && (s'.line x).holdRequest then s'.goHeld x 0
    else s'.beginCycle x t cause

/-- The cycle count advances by 1, from 65535 to 0 (R83). -/
def State.countCycle (s : State) (x : LineId) : State :=
  s.setLine x { s.line x with cycleCount := (s.line x).cycleCount + 1 }

/-! ## Hold -/

/-- The release of a HELD line: at a position other than 0 the held slot begins, at position 0 the cycle
boundary is processed again without step 3 (R91, R95). LINE_CHANGE RUNNING comes before the slot begins
(DEDUCED, assumption 10). -/
def State.release (s : State) (x : LineId) : State :=
  let t := (s.line x).time
  if (s.line x).slotIndex = 0 then s.boundary x t false .release
  else (s.goRunning x .release).beginSlot x t

/-- What follows a change of the hold flag or the pin level: a HELD line whose request `before` was active
and now is inactive is released (R89, R91). -/
def State.holdChanged (s : State) (x : LineId) (before : Bool) : State :=
  if (s.line x).lineState = .held ∧ before = true ∧ (s.line x).holdRequest = false then s.release x
  else s

/-- The hold flag is set or cleared (R89). -/
def State.setHoldFlag (s : State) (x : LineId) (v : Bool) : State :=
  (s.setLine x { s.line x with holdFlag := v }).holdChanged x (s.line x).holdRequest

/-! ## Slot end -/

/-- The line goes to ASLEEP at the end of a HUSH slot whose hush frame ended OK (R124). -/
def State.goAsleep (s : State) (x : LineId) : State :=
  (s.setLine x { s.line x with lineState := .asleep, slotIndex := 0, hushOk := false }).postLineChange x
    0xFF .hush

/-- The slot end at the instant `t`: sleep, the end of the cycle, hold, or the next slot (R88). -/
def State.endSlot (s : State) (x : LineId) (k : Fin 8) (t : Nat) : State :=
  let l := s.line x
  if l.hushOk then s.goAsleep x
  else if (s.dir k).slotCount ≤ l.slotIndex + 1 then (s.countCycle x).boundary x t true .recovered
  else if l.lineState = .running ∧ l.settings.holdPoint = .slot ∧ l.holdRequest = true then
    s.goHeld x (l.slotIndex + 1)
  else (s.setLine x { l with slotIndex := l.slotIndex + 1 }).beginSlot x t

/-! ## Waking and FAULT -/

/-- The line goes to WAKING in a phase, with LINE_CHANGE of this cause (R126, R127, R133). -/
def State.goWaking (s : State) (x : LineId) (m : Monitor) (cause : Cause) : State :=
  (s.setLine x { s.line x with lineState := .waking, monitor := m }).postLineChange x 0xFF cause

/-- The line enters FAULT (R131); a pulse in progress ends and its count is 0 (DEDUCED, assumption 11). -/
def State.enterFault (s : State) (x : LineId) : State :=
  (s.setLine x
    { s.line x with
      lineState := .fault, slotIndex := 0, hushOk := false,
      monitor := { (s.line x).monitor with wakePhase := .none, qualifyCount := none,
                                           pulseCount := 0 } }).postLineChange x 0xFF .stuck

/-! ## Line reset -/

/-- The ADHOC_END CANCELLED record of a flushed request (R119). -/
def flushedRecord (x : LineId) (stamp : Count16) (d : Fin 64) : Post :=
  { kind := .adhocEnd, line := some x, index := BitVec.ofNat 8 d.val,
    detail := outcomeCode .cancelled, stamp := stamp }

/-- The LINE_CHANGE OFF record of a line reset (R101, R149). -/
def resetRecord (x : LineId) : Post :=
  { kind := .lineChange, line := some x, index := 0xFF, detail := lineChangeDetail .reset .off,
    stamp := 0 }

/-- The ad-hoc state of every flushed descriptor becomes NONE (R119). -/
def State.flushViews (s : State) : List (Fin 64) → State
  | [] => s
  | d :: rest => State.flushViews (s.setAdhoc d .none) rest

/-- A node after a reset of a line: in use on that line it becomes UNKNOWN with its counters at 0 (R147). -/
def Node.lineReset (x : LineId) (n : Node) : Node :=
  if n.config.inUse = true ∧ n.config.line = x then
    { n with state := .unknown, misses := 0, score := 0 }
  else n

/-- The controller after step 5 of a line reset (R101, R79, R17, R110). -/
def LineController.resetFields (l : LineController) : LineController :=
  { l.wentOff with
    holdFlag := false, cycleCount := 0, queue := [], inFlight := none, seq := .initial }

/-- The line reset: frame cancelled, queue flushed, nodes reset, line OFF with its counters cleared, and the
records of steps 3 and 6 held by the command unit (R101, R119, R147, R150). -/
def State.resetLine (s : State) (x : LineId) : State :=
  let s1 := s.endFrame x .cancelled []
  let queue := (s1.line x).queue
  let records :=
    queue.map (flushedRecord x (s1.line x).cycleCount)
      ++ (if (s.line x).lineState = .off then [] else [resetRecord x])
  let s2 := (s1.flushViews queue).mapNodes (Node.lineReset x)
  let s3 := s2.setLine x (s2.line x).resetFields
  s3.setEvents (s3.events.hold x records)

end Sys2Proof.Machine
end

