-- ==== Sys2Proof/Machine/LineCommands.lean ====
section
/-! DEFINITION. The line commands, each taken by the controller of the line that the accepted command names
(R164): START, STOP_END, STOP_NOW, SWITCH, HOLD_SET, HOLD_CLEAR, WAKE, CLEAR_FAULT and LINE_RESET. A step
for which the command unit holds no such command finds nothing to take (DESIGN CHOICE,
assumption 2). -/

namespace Sys2Proof.Machine

/-- What START sets before its boundary: the monitor active, the HOLD sampler begun with its level
released and its last sample high, the line RUNNING at slot index 0 (R90, R96, R121). -/
def LineController.started (l : LineController) : LineController :=
  { l with
    lineState := .running, slotIndex := 0, monitor := { Monitor.off with active := true },
    pinAsserted := false, lastSample := .high, previousSample := .high }

/-- START with success: the schedule becomes active with SCHEDULE_TAKEN, LINE_CHANGE RUNNING follows and
slot 0 begins (R93, R96). -/
def State.startLine (s : State) (x : LineId) (k : Fin 8) : State :=
  (((s.setLine x (s.line x).started).takeSchedule x k).goRunning x .command).beginSlot x (s.line x).time

/-- The taking of START (R96). -/
def State.takeStart (s : State) (x : LineId) (k : Fin 8) : State :=
  if (s.line x).lineState = .off then
    match s.validationFailure x k with
    | some detail => s.complete { result := .invalidSchedule, detail := detail }
    | none => (s.startLine x k).complete .done
  else s.complete .wrongState

/-- START (R96). -/
def execStart (s : State) : Host.Outcome State Fault Refusal :=
  .next
    (match s.accepted with
    | some (.start x k) => s.takeStart x k
    | _ => s)

/-- The taking of STOP_END by line state; its DETAIL is a free value (R97; DESIGN CHOICE,
assumption 1). -/
def State.takeStopEnd (s : State) (x : LineId) : State :=
  match (s.line x).lineState with
  | .off => s.completeFree .wrongState
  | .running =>
    ((s.setLine x { s.line x with stopRequest := true, lineState := .draining }).postLineChange x 0xFF
      .command).completeFree .done
  | .draining => s.completeFree .done
  | .waking => (s.setLine x { s.line x with stopRequest := true }).completeFree .done
  | .held | .asleep | .fault => (s.goOff x .command).completeFree .done

/-- STOP_END (R97). -/
def execStopEnd (s : State) : Host.Outcome State Fault Refusal :=
  .next
    (match s.accepted with
    | some (.stopEnd x) => s.takeStopEnd x
    | _ => s)

/-- The taking of STOP_NOW: the frame in flight is cancelled, then the line goes OFF (R35, R98). -/
def State.takeStopNow (s : State) (x : LineId) : State :=
  if (s.line x).lineState = .off then s.complete .wrongState
  else ((s.endFrame x .cancelled []).goOff x .command).complete .done

/-- STOP_NOW (R98). -/
def execStopNow (s : State) : Host.Outcome State Fault Refusal :=
  .next
    (match s.accepted with
    | some (.stopNow x) => s.takeStopNow x
    | _ => s)

/-- The line states in which SWITCH is taken (R99). -/
def LineState.takesSwitch : LineState → Bool
  | .running | .held | .asleep | .waking | .fault => true
  | .off | .draining => false

/-- The taking of SWITCH (R99). -/
def State.takeSwitch (s : State) (x : LineId) (k : Fin 8) : State :=
  if (s.line x).lineState.takesSwitch then
    match s.validationFailure x k with
    | some detail => s.complete { result := .invalidSchedule, detail := detail }
    | none => (s.setLine x { s.line x with pending := some k }).complete .done
  else s.complete .wrongState

/-- SWITCH (R99). -/
def execSwitch (s : State) : Host.Outcome State Fault Refusal :=
  .next
    (match s.accepted with
    | some (.switch x k) => s.takeSwitch x k
    | _ => s)

/-- HOLD_SET (R89). -/
def execHoldSet (s : State) : Host.Outcome State Fault Refusal :=
  .next
    (match s.accepted with
    | some (.holdSet x) => (s.setHoldFlag x true).complete .done
    | _ => s)

/-- HOLD_CLEAR, which may release a HELD line (R89, R91). -/
def execHoldClear (s : State) : Host.Outcome State Fault Refusal :=
  .next
    (match s.accepted with
    | some (.holdClear x) => (s.setHoldFlag x false).complete .done
    | _ => s)

/-- The taking of WAKE: in ASLEEP a new origin and a wake pulse of W bit times (R127). -/
def State.takeWake (s : State) (x : LineId) : State :=
  let l := s.line x
  if l.lineState = .asleep then
    ((s.setLine x (l.setOrigin l.time)).goWaking x
      { l.monitor with qualifyCount := none, wakePhase := .pulse, pulseCount := l.settings.wakePulse }
      .command).complete .done
  else s.complete .wrongState

/-- WAKE (R127). -/
def execWake (s : State) : Host.Outcome State Fault Refusal :=
  .next
    (match s.accepted with
    | some (.wake x) => s.takeWake x
    | _ => s)

/-- The taking of CLEAR_FAULT: refused with LINE_LOW while the run count is above 0, otherwise recovery
without a pulse on a new origin (R133). -/
def State.takeClearFault (s : State) (x : LineId) : State :=
  let l := s.line x
  if l.lineState = .fault then
    if 0 < l.monitor.runCount then
      s.complete { result := .lineLow, detail := BitVec.ofNat 8 l.monitor.runCount }
    else
      ((s.setLine x (l.setOrigin l.time)).goWaking x
        { l.monitor with wakePhase := .recovery, recoveryCount := 0 } .command).complete .done
  else s.complete .wrongState

/-- CLEAR_FAULT (R133). -/
def execClearFault (s : State) : Host.Outcome State Fault Refusal :=
  .next
    (match s.accepted with
    | some (.clearFault x) => s.takeClearFault x
    | _ => s)

/-- LINE_RESET (R101). -/
def execLineReset (s : State) : Host.Outcome State Fault Refusal :=
  .next
    (match s.accepted with
    | some (.lineReset x) => (s.resetLine x).complete .done
    | _ => s)

end Sys2Proof.Machine
end

