-- ==== Sys2Proof/Machine/MonitorEvents.lean ====
section
/-! DEFINITION. The line monitor and the wake sequencer: each bit time judged (R122, R126, R128), the
stuck-line report (R130, R131), the remote wake (R126), the end of the wake pulse (R127) and the end of
recovery (R129). -/

namespace Sys2Proof.Machine

/-- The run count and the stuck report after a judged bit time (R122). -/
def Monitor.counted (m : Monitor) (level : Level) : Monitor :=
  match level with
  | .dominant => { m with runCount := min 255 (m.runCount + 1) }
  | .recessive => { m with runCount := 0, stuckReported := false }

/-- The qualify count after a bit time judged in ASLEEP: loaded with Q and at once reduced, reduced, or
returned to none (R126). -/
def nextQualify (q : Nat) (count : Option Nat) (level : Level) : Option Nat :=
  match level, count with
  | .dominant, none => some (q - 1)
  | .dominant, some n => some (n - 1)
  | .recessive, _ => none

/-- The recovery count after a bit time judged in RECOVERY; it cannot run past R (R128). -/
def nextRecovery (r count : Nat) (level : Level) : Nat :=
  match level with
  | .dominant => 0
  | .recessive => min r (count + 1)

/-- The monitor after a judged bit time, by line state and wake phase (R122, R126, R128). -/
def Monitor.judged (m : Monitor) (st : LineSettings) (lineState : LineState) (level : Level) : Monitor :=
  let m' := m.counted level
  { m' with
    qualifyCount :=
      if lineState = .asleep then nextQualify st.wakeQualify m.qualifyCount level else m.qualifyCount,
    recoveryCount :=
      if lineState = .waking ∧ m.wakePhase = .recovery then
        nextRecovery st.recovery m.recoveryCount level
      else m.recoveryCount }

/-- The judgement of the next bit time of the base, at its third sample, while the monitor is active
(R122). What becomes due is a step of its own (DEDUCED, assumption 9). -/
def State.judgeBit (s : State) (x : LineId) (samples : Samples) : State :=
  let l := s.line x
  if l.monitor.active then
    let n := l.nextJudged
    let l' := (l.reach (n * l.settings.divisor + thirdSample l.settings.divisor)).countPulse
    s.setLine x
      { l' with bitsJudged := n + 1,
                monitor := l'.monitor.judged l.settings l.lineState (majority samples) }
  else s

/-- BIT_TIME_JUDGED (R122). -/
def execBitTimeJudged (x : LineId) (samples : Samples) (s : State) :
    Host.Outcome State Fault Refusal := .next (s.judgeBit x samples)

/-- Whether the dominant run has reached the stuck limit and has not been reported (R130). -/
def LineController.stuckDue (l : LineController) : Bool :=
  l.monitor.active && !l.monitor.stuckReported && decide (l.settings.stuckLimit ≤ l.monitor.runCount)

/-- The stuck-line report: it has no effect in FAULT; elsewhere a frame in flight ends LINE_STUCK and the
line enters FAULT (R34, R130, R131). -/
def State.reportStuck (s : State) (x : LineId) : State :=
  if (s.line x).stuckDue then
    let s' := s.setMonitor x { (s.line x).monitor with stuckReported := true }
    if (s.line x).lineState = .fault then s' else (s'.endFrame x .lineStuck []).enterFault x
  else s

/-- STUCK_LINE_REPORT (R130). -/
def execStuckLineReport (x : LineId) (s : State) : Host.Outcome State Fault Refusal :=
  .next (s.reportStuck x)

/-- The qualified remote wake: WAKING in RECOVERY, without a pulse (R126). -/
def State.wakeRemotely (s : State) (x : LineId) : State :=
  let l := s.line x
  if l.lineState = .asleep ∧ l.monitor.qualifyCount = some 0 then
    s.goWaking x
      { l.monitor with qualifyCount := none, wakePhase := .recovery, recoveryCount := 0 } .remote
  else s

/-- REMOTE_WAKE (R126). -/
def execRemoteWake (x : LineId) (s : State) : Host.Outcome State Fault Refusal :=
  .next (s.wakeRemotely x)

/-- The end of the wake pulse, W bit times after the WAKE: the line is released and recovery begins
(R127, R128). -/
def State.pulseEnds (s : State) (x : LineId) : State :=
  let l := s.line x
  if l.lineState = .waking ∧ l.monitor.wakePhase = .pulse then
    let s' := s.reach x (l.settings.wakePulse * l.settings.divisor)
    s'.setMonitor x
      { (s'.line x).monitor with wakePhase := .recovery, pulseCount := 0, recoveryCount := 0 }
  else s

/-- WAKE_PULSE_END (R127). -/
def execWakePulseEnd (x : LineId) (s : State) : Host.Outcome State Fault Refusal :=
  .next (s.pulseEnds x)

/-- Whether recovery has seen R consecutive recessive bit times (R128). -/
def LineController.recovered (l : LineController) : Bool :=
  l.lineState == .waking && l.monitor.wakePhase == .recovery
    && decide (l.settings.recovery ≤ l.monitor.recoveryCount)

/-- The end of recovery, at the end of the bit time last judged: the cycle count advances and a full cycle
boundary is processed (R128, R129). -/
def State.recoveryEnds (s : State) (x : LineId) : State :=
  let l := s.line x
  if l.recovered then
    let n := l.bitsJudged * l.settings.divisor
    let s' := s.reach x n
    let s'' := s'.setMonitor x { (s'.line x).monitor with wakePhase := .none, recoveryCount := 0 }
    (s''.countCycle x).boundary x (l.instant n) true .recovered
  else s

/-- RECOVERY_END (R129). -/
def execRecoveryEnd (x : LineId) (s : State) : Host.Outcome State Fault Refusal :=
  .next (s.recoveryEnds x)

end Sys2Proof.Machine
end

