-- ==== Sys2Proof/Machine/PushCommands.lean ====
section
/-! DEFINITION. SUPPLY, taken by the line's sequencer, and ENQUEUE and CANCEL, taken by its runner
(R105, R106, R111, R112, R164). -/

namespace Sys2Proof.Machine

/-- The sequencer after a SUPPLY answered DONE `elapsed` REFCLK periods after the slot start: the data and
their check are copied behind the header, the request is none, and PUSH begins at once if the push space
has passed, otherwise PUSH_SPACE (R30, R106). -/
def Sequencer.supplied (q : Sequencer) (st : LineSettings) (v : Descriptor) (elapsed : Nat) :
    Sequencer :=
  let data := messageBytes v (q.length.getD 0)
  let check := crcFrom q.runningCheck data
  let q' :=
    { q with
      txBuffer := overlay (q.txBuffer.toList.take 2 ++ data ++ [check]) q.txBuffer,
      runningCheck := check, supplyRequest := none, charCount := 0 }
  if (q.controlEnd.getD 0 + st.pushSpace) * st.divisor ≤ elapsed then
    { q' with frameState := .push, pushStart := some elapsed, bitPosition := 0 }
  else { q' with frameState := .pushSpace }

/-- The answer of a sequencer that waits for no SUPPLY of this descriptor (R105, rows 3 and 4). -/
def State.supplyRefusal (s : State) (x : LineId) (d : Fin 64) : Answer :=
  let v := s.desc d
  if v.config.inUse = true ∧ v.config.line = x ∧ v.lastOutcome = some .lateData then
    { result := .tooLate, detail := lowByte v.stamp.toNat }
  else { result := .notWaiting, detail := 0xFF }

/-- The taking of SUPPLY by the first row that applies (R105). -/
def State.takeSupply (s : State) (x : LineId) (d : Fin 64) : State :=
  let l := s.line x
  if l.seq.frameState = .supplyWait then
    match l.seq.supplyRequest with
    | some e =>
      if e = d then (s.setSeq x (l.seq.supplied l.settings (s.desc d) l.elapsed)).complete .done
      else s.complete { result := .notWaiting, detail := BitVec.ofNat 8 e.val }
    | none => s.complete (s.supplyRefusal x d)
  else s.complete (s.supplyRefusal x d)

/-- SUPPLY (R105). -/
def execSupply (s : State) : Host.Outcome State Fault Refusal :=
  .next
    (match s.accepted with
    | some (.supply x d) => s.takeSupply x d
    | _ => s)

/-- The first check of ENQUEUE that fails, if one does (R111). -/
def State.enqueueRefusal (s : State) (x : LineId) (d : Fin 64) : Option Answer :=
  let l := s.line x
  if (s.desc d).config.inUse = false then some { result := .badReference, detail := 0x00 }
  else if (s.desc d).config.line ≠ x then some { result := .badReference, detail := 0x01 }
  else if d ∈ l.queue then some { result := .alreadyQueued, detail := 0x01 }
  else if l.inFlight = some d then some { result := .alreadyQueued, detail := 0x02 }
  else if Config.adhocCapacity ≤ l.queue.length then some { result := .queueFull, detail := 0x08 }
  else none

/-- The taking of ENQUEUE: the descriptor joins the tail and becomes QUEUED (R111). -/
def State.takeEnqueue (s : State) (x : LineId) (d : Fin 64) : State :=
  match s.enqueueRefusal x d with
  | some a => s.complete a
  | none =>
    ((s.setLine x { s.line x with queue := (s.line x).queue ++ [d] }).setAdhoc d .queued).complete
      { result := .done, detail := lowByte ((s.line x).queue.length + 1) }

/-- ENQUEUE (R111). -/
def execEnqueue (s : State) : Host.Outcome State Fault Refusal :=
  .next
    (match s.accepted with
    | some (.enqueue x d) => s.takeEnqueue x d
    | _ => s)

/-- The taking of CANCEL: a queued descriptor leaves the queue and its ad-hoc state becomes NONE (R112). -/
def State.takeCancel (s : State) (x : LineId) (d : Fin 64) : State :=
  let l := s.line x
  if d ∈ l.queue then
    ((s.setLine x { l with queue := l.queue.erase d }).setAdhoc d .none).complete
      { result := .done, detail := lowByte (l.queue.erase d).length }
  else
    s.complete { result := .notQueued, detail := if l.inFlight = some d then 0x02 else 0x00 }

/-- CANCEL (R112). -/
def execCancel (s : State) : Host.Outcome State Fault Refusal :=
  .next
    (match s.accepted with
    | some (.cancel x d) => s.takeCancel x d
    | _ => s)

end Sys2Proof.Machine
end

