-- ==== Sys2Proof/Machine/QueueEvents.lean ====
section
/-! DEFINITION. The arbiter's taking of a post (R150, R152) and the release of a line reset's records onto
the command unit's path (R150). -/

namespace Sys2Proof.Machine

/-- POST_TAKEN (R152). -/
def execPostTaken (p : Poster) (s : State) : Host.Outcome State Fault Refusal :=
  .next (s.setEvents (s.events.takePost p))

/-- RESET_RECORDS_POSTED (R150). -/
def execResetRecordsPosted (x : LineId) (s : State) : Host.Outcome State Fault Refusal :=
  .next (s.setEvents (s.events.releaseHold x))

end Sys2Proof.Machine
end

