-- ==== Sys2Proof/Machine/Reset.lean ====
section
/-! DEFINITION. Power-on reset and the release of RESETn (R171). -/

namespace Sys2Proof.Machine

/-- Every block at its power-on values with RESETn asserted; the model's own queue and count of free values
are no part of the device and stay (R36, R119, R158, R171; DESIGN CHOICE, assumption 17). -/
def State.powerOn (s : State) : State :=
  { State.reset with inReset := true, freeCount := s.freeCount, pending := s.pending }

/-- POWER_ON_RESET (R171). -/
def execPowerOnReset (s : State) : Host.Outcome State Fault Refusal := .next s.powerOn

/-- RESETN_RELEASE: the device takes bus accesses again (R159, R171). -/
def execResetnRelease (s : State) : Host.Outcome State Fault Refusal :=
  .next { s with inReset := false }

end Sys2Proof.Machine
end

