-- ==== Sys2Proof/Machine/RunnerEvents.lean ====
section
/-! DEFINITION. The runner's own events: SLOT_END (R88) and the HOLD pin (R90). -/

namespace Sys2Proof.Machine

/-- The slot end: the slot's length has passed from the slot start (R85, R88). It comes about in RUNNING and
DRAINING with the sequencer IDLE. -/
def State.slotEnds (s : State) (x : LineId) : State :=
  let l := s.line x
  if (l.lineState = .running ∨ l.lineState = .draining) ∧ l.seq.frameState = .idle then
    match l.active, s.currentSlot x with
    | some k, some i =>
      let n := (s.slot i).length * l.settings.divisor
      (s.reach x n).endSlot x k (l.instant n)
    | _, _ => s
  else s

/-- SLOT_END (R88). -/
def execSlotEnd (x : LineId) (s : State) : Host.Outcome State Fault Refusal := .next (s.slotEnds x)

/-- A sample of the HOLD pin at the middle of the next bit time of the base, in every state but OFF (R90). -/
def State.samplePin (s : State) (x : LineId) (reading : PinLevel) : State :=
  let l := s.line x
  if l.lineState = .off then s
  else
    let n := l.nextSampled
    let l' := (l.reach (n * l.settings.divisor + middleSample l.settings.divisor)).countPulse
    s.setLine x
      { l' with previousSample := l'.lastSample, lastSample := reading, bitsSampled := n + 1 }

/-- HOLD_PIN_SAMPLE (R90). -/
def execHoldPinSample (x : LineId) (reading : PinLevel) (s : State) :
    Host.Outcome State Fault Refusal := .next (s.samplePin x reading)

/-- Whether the last two samples of the HOLD pin are equal and call for the other pin level (R90). -/
def LineController.levelDue (l : LineController) : Bool :=
  l.lineState != .off && l.lastSample == l.previousSample
    && l.pinAsserted != (l.lastSample == .low)

/-- The pin level takes the level of the last two samples, and the hold request follows (R89, R90, R91). -/
def State.levelChanges (s : State) (x : LineId) : State :=
  let l := s.line x
  if l.levelDue then
    (s.setLine x { l with pinAsserted := l.lastSample == .low }).holdChanged x l.holdRequest
  else s

/-- HOLD_PIN_LEVEL_CHANGE (R90). -/
def execHoldPinLevelChange (x : LineId) (s : State) : Host.Outcome State Fault Refusal :=
  .next (s.levelChanges x)

end Sys2Proof.Machine
end

