-- ==== Sys2Proof/Machine/SequencerEvents.lean ====
section
/-! DEFINITION. The course of a frame in the sequencer: the ends of alert, mark and control character
(R20 to R22), readback (R24), the reply (R25 to R28), the supply window (R31) and the push (R32, R33). An
event whose frame state is not the present one finds nothing to end (DESIGN CHOICE,
assumption 3). -/

namespace Sys2Proof.Machine

/-- The end of the alert, A bit times after the frame start (R20). -/
def State.alertEnds (s : State) (x : LineId) : State :=
  let l := s.line x
  if l.seq.frameState = .alert then
    let s' := s.reach x (l.settings.alert * l.settings.divisor)
    s'.setSeq x { (s'.line x).seq with frameState := .mark, bitPosition := 0 }
  else s

/-- ALERT_END (R20). -/
def execAlertEnd (x : LineId) (s : State) : Host.Outcome State Fault Refusal := .next (s.alertEnds x)

/-- The end of the mark, M bit times after the end of the alert (R21). -/
def State.markEnds (s : State) (x : LineId) : State :=
  let l := s.line x
  if l.seq.frameState = .mark then
    let s' := s.reach x ((l.settings.alert + l.settings.mark) * l.settings.divisor)
    s'.setSeq x { (s'.line x).seq with frameState := .header, bitPosition := 0 }
  else s

/-- MARK_END (R21). -/
def execMarkEnd (x : LineId) (s : State) : Host.Outcome State Fault Refusal := .next (s.markEnds x)

/-- The state a frame kind calls for after its control character (R22). -/
def stateAfterHeader : FrameKind → FrameState
  | .poll => .replyWait
  | .storedPush | .hush => .pushSpace
  | .deferredPush => .supplyWait

/-- The message table steps the frame counter of the descriptor, if the frame has one, from 7 to 0 (R23,
R50). -/
def State.stepCounter (s : State) : Option (Fin 64) → State
  | none => s
  | some d => s.setDesc d { s.desc d with frameCounter := (s.desc d).frameCounter + 1 }

/-- The detail of SUPPLY_DUE: the slot number of a scheduled frame, FFh otherwise (R104). -/
def supplyDueDetail : Option FrameSource → Byte
  | some (.scheduled i) => BitVec.ofNat 8 i.val
  | _ => 0xFF

/-- The sequencer after the end of the control character: the control end recorded, the state of the frame
kind entered, and for a deferred push the supply request set (R22, R29). -/
def Sequencer.headerSent (q : Sequencer) (st : LineSettings) (kind : FrameKind) : Sequencer :=
  { q with
    frameState := stateAfterHeader kind, controlEnd := some (headerTime st), bitPosition := 0,
    supplyRequest := if kind = .deferredPush then q.descriptor else q.supplyRequest }

/-- The end of the control character, H bit times after the frame start (R22, R23, R29, R104). -/
def State.controlEnds (s : State) (x : LineId) : State :=
  let l := s.line x
  match l.seq.frameState, l.seq.kind with
  | .header, some kind =>
    let s1 := s.reach x (headerTime l.settings * l.settings.divisor)
    let s2 := s1.setSeq x ((s1.line x).seq.headerSent l.settings kind)
    let s3 := s2.stepCounter l.seq.descriptor
    if kind = .deferredPush then
      s3.postLine x .supplyDue (indexCode l.seq.descriptor) (supplyDueDetail l.seq.source)
    else s3
  | _, _ => s

/-- CONTROL_END (R22). -/
def execControlEnd (x : LineId) (s : State) : Host.Outcome State Fault Refusal :=
  .next (s.controlEnds x)

/-- The comparison of a sent bit with its samples, at its third sample: the frame ends READBACK where they
differ and goes on where they agree (R24). A bit time that the present state does not send is not
compared. -/
def State.compareBit (s : State) (x : LineId) (bit : Nat) (samples : Samples) : State :=
  let l := s.line x
  if bit < sentBits l.settings l.seq then
    let s' :=
      s.reach x
        (stateBegin l.settings l.seq + bit * l.settings.divisor + thirdSample l.settings.divisor)
    if majority samples = drivenLevel l.settings l.seq bit then s' else s'.endFrame x .readback []
  else s

/-- READBACK (R24). -/
def execReadback (x : LineId) (bit : Nat) (samples : Samples) (s : State) :
    Host.Outcome State Fault Refusal := .next (s.compareBit x bit samples)

/-! ## The reply -/

/-- The first instant at which a new start edge can come after a recessive start bit, judged at `judged`:
the wire must first be seen recessive, as it is at that third sample or, where that sample is dominant, one
REFCLK period later at the earliest (R4, R25, R27; DEDUCED, assumption 15). -/
def nextLook (judged : Nat) (samples : Samples) : Nat :=
  if samples.third = .recessive then judged + 1 else judged + 2

/-- The judgement of a start edge taken at `edge` against a deadline, all in REFCLK periods from the slot
start: a dominant start bit begins a character; a recessive one is disregarded and the receiver looks again
once the wire is recessive, or it ends the frame with `late` when its third sample does not come before the
deadline (R4, R25, R27). -/
def State.judgeStart (s : State) (x : LineId) (edge deadline : Nat) (samples : Samples)
    (late : FrameOutcome) : State :=
  let judged := edge + thirdSample (s.line x).settings.divisor
  let s' := s.reach x judged
  if majority samples = .dominant then
    s'.setSeq x
      { (s'.line x).seq with
        frameState := .reply, startEdge := some edge, bitPosition := 0, lookAgain := none }
  else if deadline ≤ judged then s'.endFrame x late []
  else s'.setSeq x { (s'.line x).seq with lookAgain := some (nextLook judged samples) }

/-- The first instant at which the receiver looks for a start edge: after a recessive start bit the instant
at which it looks again; else in REPLY_WAIT the REFCLK period after the third sample of the control
character's stop bit (R25), in REPLY the middle sample of the last character's stop bit (R4, R26; DEDUCED,
assumption 15). -/
def lookFrom (st : LineSettings) (q : Sequencer) : Nat :=
  q.lookAgain.getD
    (if q.frameState = .replyWait then
      (q.controlEnd.getD 0 - 1) * st.divisor + thirdSample st.divisor + 1
    else q.lastCharEnd.getD 0 - st.divisor + middleSample st.divisor)

/-- The last instant at which a start edge is taken: the end of the reply space (R25) or of the reply gap
(R27). -/
def edgeDeadline (st : LineSettings) (q : Sequencer) : Nat :=
  if q.frameState = .replyWait then (q.controlEnd.getD 0 + st.replySpace) * st.divisor
  else q.lastCharEnd.getD 0 + st.replyGap * st.divisor

/-- Whether the receiver is looking for a start edge: in REPLY_WAIT, and in REPLY between characters until
the check has been received (R25, R27, R28). -/
def Sequencer.looking (q : Sequencer) : Bool :=
  match q.frameState with
  | .replyWait => true
  | .reply => q.startEdge.isNone && decide (q.charCount ≤ q.length.getD 0)
  | _ => false

/-- A start edge, judged at the third sample of its start bit (R25, R27). In REPLY_WAIT an edge before the
end of the control character counts as coming at that end (DEDUCED, assumption 14). -/
def State.startBit (s : State) (x : LineId) (edge : Nat) (samples : Samples) : State :=
  let l := s.line x
  let q := l.seq
  if q.looking = true ∧ lookFrom l.settings q ≤ edge ∧ edge ≤ edgeDeadline l.settings q then
    if q.frameState = .replyWait then
      s.judgeStart x (max edge (q.controlEnd.getD 0 * l.settings.divisor)) (edgeDeadline l.settings q)
        samples .noReply
    else s.judgeStart x edge (edgeDeadline l.settings q) samples .shortReply
  else s

/-- REPLY_START_BIT (R25, R27). -/
def execReplyStartBit (x : LineId) (edge : Nat) (samples : Samples) (s : State) :
    Host.Outcome State Fault Refusal := .next (s.startBit x edge samples)

/-- The sequencer after a reply character with a recessive stop bit: the count advances, the byte is stored,
and the running check advances over it unless it is the received check (R26). -/
def Sequencer.takeCharacter (q : Sequencer) (byte : Byte) (nominalEnd : Nat) : Sequencer :=
  { q with
    charCount := q.charCount + 1, rxBuffer := q.rxBuffer.setIfInBounds q.charCount byte,
    runningCheck :=
      if q.charCount + 1 ≤ q.length.getD 0 then crcByte q.runningCheck byte else q.runningCheck,
    startEdge := none, lastCharEnd := some nominalEnd, lookAgain := none }

/-- A reply character at the third sample of its stop bit: FRAMING when the stop bit is dominant (R26). -/
def State.character (s : State) (x : LineId) (bits : BitVec 9) : State :=
  let l := s.line x
  match l.seq.frameState, l.seq.startEdge with
  | .reply, some edge =>
    let s' := s.reach x (edge + 9 * l.settings.divisor + thirdSample l.settings.divisor)
    if bits.getLsbD 8 then
      s'.setSeq x
        ((s'.line x).seq.takeCharacter (bits.setWidth 8) (edge + 10 * l.settings.divisor))
    else s'.endFrame x .framing []
  | _, _ => s

/-- REPLY_CHARACTER (R26). -/
def execReplyCharacter (x : LineId) (first second third : BitVec 9) (s : State) :
    Host.Outcome State Fault Refusal := .next (s.character x (majorityBits first second third))

/-- The end of the reply space with no first character begun (R25). -/
def State.replySpaceEnds (s : State) (x : LineId) : State :=
  let l := s.line x
  if l.seq.frameState = .replyWait then
    (s.reach x (edgeDeadline l.settings l.seq)).endFrame x .noReply []
  else s

/-- REPLY_SPACE_END (R25). -/
def execReplySpaceEnd (x : LineId) (s : State) : Host.Outcome State Fault Refusal :=
  .next (s.replySpaceEnds x)

/-- The end of a reply gap with no next character (R27). -/
def State.replyGapEnds (s : State) (x : LineId) : State :=
  let l := s.line x
  if l.seq.frameState = .reply ∧ l.seq.looking = true then
    (s.reach x (edgeDeadline l.settings l.seq)).endFrame x .shortReply []
  else s

/-- REPLY_GAP_END (R27). -/
def execReplyGapEnd (x : LineId) (s : State) : Host.Outcome State Fault Refusal :=
  .next (s.replyGapEnds x)

/-- Whether the received check stands beside the running check for comparison (R26, R28). -/
def Sequencer.replyComplete (q : Sequencer) : Bool :=
  q.frameState == .reply && q.startEdge.isNone && decide (q.charCount = q.length.getD 0 + 1)

/-- Whether the received check equals the running check (R28). -/
def Sequencer.checkEqual (q : Sequencer) : Bool :=
  byteAt q.rxBuffer (q.length.getD 0) == q.runningCheck

/-- The comparison of the checks at the nominal end of the check character (R28). -/
def State.compareCheck (s : State) (x : LineId) : State :=
  let l := s.line x
  if l.seq.replyComplete then
    let s' := s.reach x (l.seq.lastCharEnd.getD 0)
    if l.seq.checkEqual then
      s'.endFrame x .ok (l.seq.rxBuffer.toList.take (l.seq.length.getD 0))
    else s'.endFrame x .crcFail []
  else s

/-- CHECK_COMPARE (R28). -/
def execCheckCompare (x : LineId) (s : State) : Host.Outcome State Fault Refusal :=
  .next (s.compareCheck x)

/-! ## The push -/

/-- The end of the supply window, D bit times after the control end, with the request outstanding (R31,
R107). -/
def State.windowEnds (s : State) (x : LineId) : State :=
  let l := s.line x
  if l.seq.frameState = .supplyWait then
    (s.reach x ((l.seq.controlEnd.getD 0 + l.settings.supplyWindow) * l.settings.divisor)).endFrame x
      .lateData []
  else s

/-- SUPPLY_WINDOW_END (R31). -/
def execSupplyWindowEnd (x : LineId) (s : State) : Host.Outcome State Fault Refusal :=
  .next (s.windowEnds x)

/-- The end of the push space, P bit times after the control end: PUSH begins (R32). -/
def State.pushSpaceEnds (s : State) (x : LineId) : State :=
  let l := s.line x
  if l.seq.frameState = .pushSpace then
    let n := (l.seq.controlEnd.getD 0 + l.settings.pushSpace) * l.settings.divisor
    let s' := s.reach x n
    s'.setSeq x
      { (s'.line x).seq with
        frameState := .push, pushStart := some n, bitPosition := 0, charCount := 0 }
  else s

/-- PUSH_SPACE_END (R32). -/
def execPushSpaceEnd (x : LineId) (s : State) : Host.Outcome State Fault Refusal :=
  .next (s.pushSpaceEnds x)

/-- The end of the check character's stop bit of a push (R33). -/
def State.pushEnds (s : State) (x : LineId) : State :=
  let l := s.line x
  if l.seq.frameState = .push then
    let s' :=
      s.reach x (l.seq.pushStart.getD 0 + sentBits l.settings l.seq * l.settings.divisor)
    s'.endFrame x .ok []
  else s

/-- PUSH_END (R33). -/
def execPushEnd (x : LineId) (s : State) : Host.Outcome State Fault Refusal := .next (s.pushEnds x)

end Sys2Proof.Machine
end

