-- ==== Sys2Proof/Machine/TableCommands.lean ====
section
/-! DEFINITION. The table commands OPEN_PEEK, OPEN_TAKE, COMMIT and ERASE (R167, R169, R170). -/

namespace Sys2Proof.Machine

/-- OPEN_PEEK (R54, R167). -/
def execOpenPeek (s : State) : Host.Outcome State Fault Refusal :=
  .next
    (match s.accepted with
    | some (.openPeek t i) => (s.openPort t i).complete (openAnswer t)
    | _ => s)

/-- OPEN_TAKE: the copy, and in the same step the clearing of a descriptor's freshness flags (R55, R167). -/
def execOpenTake (s : State) : Host.Outcome State Fault Refusal :=
  .next
    (match s.accepted with
    | some (.openTake t i) => ((s.openPort t i).takeFlags t i).complete (openAnswer t)
    | _ => s)

/-- COMMIT (R169). -/
def execCommit (s : State) : Host.Outcome State Fault Refusal :=
  .next
    (match s.accepted with
    | some .commit => s.commitPort.1.complete s.commitPort.2
    | _ => s)

/-- ERASE (R170). -/
def execErase (s : State) : Host.Outcome State Fault Refusal :=
  .next
    (match s.accepted with
    | some (.erase t i) => (s.eraseEntry t i).1.complete (s.eraseEntry t i).2
    | _ => s)

end Sys2Proof.Machine
end

