-- ==== Sys2Proof/Machine/Dispatch.lean ====
section
/-! DEFINITION. One arm per row of the opcode table, each a direct call of the row's meaning. -/

namespace Sys2Proof.Machine

def exec (i : Instr) (s : State) : Host.Outcome State Fault Refusal :=
  match i with
  | .powerOnReset => Sys2Proof.Machine.execPowerOnReset s
  | .start => Sys2Proof.Machine.execStart s
  | .stopEnd => Sys2Proof.Machine.execStopEnd s
  | .stopNow => Sys2Proof.Machine.execStopNow s
  | .switch => Sys2Proof.Machine.execSwitch s
  | .holdSet => Sys2Proof.Machine.execHoldSet s
  | .holdClear => Sys2Proof.Machine.execHoldClear s
  | .wake => Sys2Proof.Machine.execWake s
  | .clearFault => Sys2Proof.Machine.execClearFault s
  | .lineReset => Sys2Proof.Machine.execLineReset s
  | .supply => Sys2Proof.Machine.execSupply s
  | .enqueue => Sys2Proof.Machine.execEnqueue s
  | .cancel => Sys2Proof.Machine.execCancel s
  | .openPeek => Sys2Proof.Machine.execOpenPeek s
  | .openTake => Sys2Proof.Machine.execOpenTake s
  | .commit => Sys2Proof.Machine.execCommit s
  | .erase => Sys2Proof.Machine.execErase s
  | .pop value => Sys2Proof.Machine.execPop value s
  | .intEnableWrite value => Sys2Proof.Machine.execIntEnableWrite value s
  | .kindMaskWrite value => Sys2Proof.Machine.execKindMaskWrite value s
  | .portPointerWrite value => Sys2Proof.Machine.execPortPointerWrite value s
  | .portDataRead => Sys2Proof.Machine.execPortDataRead s
  | .portDataWrite value => Sys2Proof.Machine.execPortDataWrite value s
  | .portStateWrite value => Sys2Proof.Machine.execPortStateWrite value s
  | .registerWrite address value => Sys2Proof.Machine.execRegisterWrite address value s
  | .holdPinLevelChange line => Sys2Proof.Machine.execHoldPinLevelChange line s
  | .slotEnd line => Sys2Proof.Machine.execSlotEnd line s
  | .alertEnd line => Sys2Proof.Machine.execAlertEnd line s
  | .markEnd line => Sys2Proof.Machine.execMarkEnd line s
  | .controlEnd line => Sys2Proof.Machine.execControlEnd line s
  | .readback line bit samples => Sys2Proof.Machine.execReadback line bit samples s
  | .replyCharacter line first second third => Sys2Proof.Machine.execReplyCharacter line first second third s
  | .replySpaceEnd line => Sys2Proof.Machine.execReplySpaceEnd line s
  | .replyGapEnd line => Sys2Proof.Machine.execReplyGapEnd line s
  | .checkCompare line => Sys2Proof.Machine.execCheckCompare line s
  | .supplyWindowEnd line => Sys2Proof.Machine.execSupplyWindowEnd line s
  | .pushSpaceEnd line => Sys2Proof.Machine.execPushSpaceEnd line s
  | .pushEnd line => Sys2Proof.Machine.execPushEnd line s
  | .stuckLineReport line => Sys2Proof.Machine.execStuckLineReport line s
  | .remoteWake line => Sys2Proof.Machine.execRemoteWake line s
  | .wakePulseEnd line => Sys2Proof.Machine.execWakePulseEnd line s
  | .recoveryEnd line => Sys2Proof.Machine.execRecoveryEnd line s
  | .postTaken path => Sys2Proof.Machine.execPostTaken path s
  | .resetRecordsPosted line => Sys2Proof.Machine.execResetRecordsPosted line s
  | .replyStartBit line edge samples => Sys2Proof.Machine.execReplyStartBit line edge samples s
  | .bitTimeJudged line samples => Sys2Proof.Machine.execBitTimeJudged line samples s
  | .holdPinSample line reading => Sys2Proof.Machine.execHoldPinSample line reading s
  | .cmdWrite value => Sys2Proof.Machine.execCmdWrite value s
  | .resetnRelease => Sys2Proof.Machine.execResetnRelease s

end Sys2Proof.Machine
end

