-- ==== Sys2Proof/Safety.lean ====
section
/-! DEFINITION. The terms the statements are written in: the records a step posts, the end of a frame as
R37 and R38 give it, which steps concern a line, and the invariants of the tables, the lines, the nodes and
the event queue. -/

namespace Sys2Proof.Machine

/-! ## Records -/

/-- The state in which a poster has made these posts, in order (R150). -/
def State.posted (s : State) (p : Poster) (records : List Post) : State :=
  s.setEvents (s.events.setPath p (s.events.path p ++ records))

/-- A LINE_CHANGE record (R102). -/
def lineChangeRecord (x : LineId) (after : LineState) (cause : Cause) (index : Byte)
    (stamp : Count16) : Post :=
  { kind := .lineChange, line := some x, index := index,
    detail := BitVec.ofNat 8 (16 * causeCode cause + lineStateCode after), stamp := stamp }

/-- A SCHEDULE_TAKEN record (R103). -/
def scheduleTakenRecord (x : LineId) (after : Fin 8) (before : Option (Fin 8)) : Post :=
  { kind := .scheduleTaken, line := some x, index := BitVec.ofNat 8 after.val,
    detail := indexCode before, stamp := 0 }

/-- An ADHOC_END record (R117). -/
def adhocEndRecord (x : LineId) (d : Fin 64) (detail : Byte) (stamp : Count16) : Post :=
  { kind := .adhocEnd, line := some x, index := BitVec.ofNat 8 d.val, detail := detail,
    stamp := stamp }

/-! ## The end of a frame -/

/-- A frame of a descriptor is in flight on the line (R18). -/
def State.DescriptorFrame (s : State) (x : LineId) (d : Fin 64) (source : FrameSource)
    (kind : FrameKind) : Prop :=
  (s.line x).seq.frameState ≠ .idle ∧ (s.line x).seq.source = some source ∧ source ≠ .hush ∧
    (s.line x).seq.descriptor = some d ∧ (s.line x).seq.kind = some kind

/-- A hush frame is in flight on the line (R18). -/
def State.HushFrame (s : State) (x : LineId) : Prop :=
  (s.line x).seq.frameState ≠ .idle ∧ (s.line x).seq.source = some .hush ∧
    (s.line x).seq.descriptor = none ∧ (s.line x).seq.kind = some .hush

/-- The sequencer fields that the end of a frame clears (R37). That the buffers, the running check and the
counts stand, the counts as the clock has moved them, is an inference (DEDUCED, assumption 18). The last four
fields cleared are the model's own times. -/
structure Sequencer.Cleared (q q' : Sequencer) : Prop where
  idle          : q'.frameState = .idle
  source        : q'.source = none
  descriptor    : q'.descriptor = none
  kind          : q'.kind = none
  length        : q'.length = none
  controlEnd    : q'.controlEnd = none
  supplyRequest : q'.supplyRequest = none
  txBuffer      : q'.txBuffer = q.txBuffer
  rxBuffer      : q'.rxBuffer = q.rxBuffer
  runningCheck  : q'.runningCheck = q.runningCheck
  startEdge     : q'.startEdge = none
  lastCharEnd   : q'.lastCharEnd = none
  pushStart     : q'.pushStart = none
  lookAgain     : q'.lookAgain = none

/-- Everything outside the two lines, the descriptors, the nodes and the four paths of the posters of frame
records is as it was. -/
structure State.SameOutsideFrames (s t : State) : Prop where
  inReset   : t.inReset = s.inReset
  readData  : t.readData = s.readData
  host      : t.host = s.host
  port      : t.port = s.port
  directory : t.directory = s.directory
  slots     : t.slots = s.slots
  queue     : t.events.queue = s.events.queue
  gap       : t.events.gap = s.events.gap
  kindMask  : t.events.kindMask = s.events.kindMask
  intEnable : t.events.intEnable = s.events.intEnable
  holds     : t.events.holds = s.events.holds
  freeCount : t.freeCount = s.freeCount
  pending   : t.pending = s.pending

/-- The message table's record of a scheduled frame by the notify field: none, FRAME_OK or FRAME_FAIL
(R53). -/
def frameRecords (s : State) (x : LineId) (d : Fin 64) (source : FrameSource)
    (o : FrameOutcome) : List Post :=
  let record : Post :=
    { kind := if o = .ok then .frameOk else .frameFail, line := some (s.desc d).config.line,
      index := BitVec.ofNat 8 d.val, detail := outcomeCode o, stamp := (s.line x).cycleCount }
  match source, (s.desc d).config.notify with
  | .scheduled _, .all => [record]
  | .scheduled _, .fail => if o = .ok then [] else [record]
  | _, _ => []

/-- The node monitor's record of a counted report: NODE_CHANGE when the state changes and the node's notify
is yes (R141). -/
def nodeRecords (s : State) (x : LineId) (n : Fin 32) (after : NodeState) : List Post :=
  if after ≠ (s.node n).state ∧ (s.node n).config.notify = true then
    [{ kind := .nodeChange, line := some (s.node n).config.line, index := BitVec.ofNat 8 n.val,
       detail := BitVec.ofNat 8 (16 * nodeStateCode (s.node n).state + nodeStateCode after),
       stamp := (s.line x).cycleCount }]
  else []

/-- The node that a report of this frame counts toward: polls of a descriptor that names one (R138). -/
def countedNode (s : State) (d : Fin 64) (kind : FrameKind) : Option (Fin 32) :=
  if kind = .poll then (s.desc d).config.node else none

/-- A frame of descriptor `d` has ended with outcome `o` and these reply bytes: the sequencer is IDLE, and
one report has reached the message table, the node monitor and the runner (R37, R38, R51 to R53, R116,
R138 to R141), all in one step (DEDUCED, assumption 25). -/
structure State.FrameEnded (x : LineId) (d : Fin 64) (source : FrameSource) (kind : FrameKind)
    (o : FrameOutcome) (reply : List Byte) (s t : State) : Prop where
  same       : s.SameOutsideFrames t
  otherLine  : ∀ y, y ≠ x → t.line y = s.line y
  line       : t.line x =
    { s.line x with
      seq := (t.line x).seq, time := (t.line x).time,
      inFlight := if source = .adHoc then none else (s.line x).inFlight }
  sequencer  : (s.line x).seq.Cleared (t.line x).seq
  otherDesc  : ∀ e, e ≠ d → t.desc e = s.desc e
  desc       : t.desc d =
    { s.desc d with
      data := (t.desc d).data,
      lastOutcome := some o,
      stamp := (s.line x).cycleCount,
      unread := (s.desc d).unread || decide (kind = .poll ∧ o = .ok),
      overwritten :=
        (s.desc d).overwritten || ((s.desc d).unread && decide (kind = .poll ∧ o = .ok)),
      suspect :=
        if kind = .poll ∧ o = .ok then
          decide (∃ n, (s.desc d).config.node = some n ∧ (s.node n).state = .erratic)
        else (s.desc d).suspect,
      adhoc := if source = .adHoc then .none else (s.desc d).adhoc }
  data       : ∀ i, i < 12 → byteAt (t.desc d).data i =
    if kind = .poll ∧ o = .ok ∧ i < reply.length then reply.getD i 0 else byteAt (s.desc d).data i
  otherNode  : ∀ n, countedNode s d kind ≠ some n → t.node n = s.node n
  node       : ∀ n, countedNode s d kind = some n → t.node n = (s.node n).report o
  pathTable  : t.events.pathTable = s.events.pathTable ++ frameRecords s x d source o
  pathNode   : t.events.pathNode = s.events.pathNode ++
    match countedNode s d kind with
    | none => []
    | some n => nodeRecords s x n ((s.node n).report o).state
  pathLine   : t.events.path (.lineController x) = s.events.path (.lineController x) ++
    if source = .adHoc then [adhocEndRecord x d (outcomeCode o) (s.line x).cycleCount] else []
  pathOther  : ∀ y, y ≠ x → t.events.path (.lineController y) = s.events.path (.lineController y)
  pathUnit   : t.events.pathUnit = s.events.pathUnit

/-- A hush frame has ended with outcome `o`: its report has reached the runner alone, which keeps an OK for
the slot end and posts FRAME_FAIL for anything else (R123). -/
structure State.HushEnded (x : LineId) (o : FrameOutcome) (s t : State) : Prop where
  line      : t.line x =
    { s.line x with
      seq := (t.line x).seq, time := (t.line x).time,
      hushOk := (s.line x).hushOk || decide (o = .ok) }
  sequencer : (s.line x).seq.Cleared (t.line x).seq
  rest      : t =
    (s.setLine x (t.line x)).posted (.lineController x)
      (if o = .ok then []
       else [{ kind := .frameFail, line := some x, index := 0xFF, detail := outcomeCode o,
               stamp := (s.line x).cycleCount }])

/-- The line's fields after its clock has moved to the instant `n` REFCLK periods after the origin of its
base: the sequencer's counts are those of the new instant, everything else stands (R2, R17, R33). -/
def LineController.ClockedTo (l : LineController) (n : Nat) (l' : LineController) : Prop :=
  l' =
    { l with
      time := max l.time (l.slotStart.getD l.time + n),
      seq := l.seq.atTime l.settings l'.elapsed }

/-- The completion of a command with a result and a DETAIL that the spec does not state (assumption 1). -/
def State.Answered (s : State) (r : Result) (t : State) : Prop :=
  t = { s.complete { result := r, detail := t.host.detail } with freeCount := t.freeCount }

/-- A range check over the fields of a window, each given by its offset and the condition it must meet, in
the order in which they are checked: the check finds nothing exactly where every field passes, and the offset
of the first field that fails otherwise (R44, R71, R72, R77, R144). -/
def FirstFailure (fields : List (Byte × Prop)) (check : Option Byte) : Prop :=
  (check = none ↔ ∀ f ∈ fields, f.2) ∧
  ∀ before f after, fields = before ++ f :: after → (∀ g ∈ before, g.2) → ¬ f.2 → check = some f.1

/-! ## Cycle boundaries -/

/-- The slot number of a position of a schedule as a record's index, FFh for a position outside slot
memory (R102). -/
def State.slotNumber (s : State) (schedule : Option (Fin 8)) (position : Nat) : Byte :=
  indexCode (schedule.bind (fun k => s.slotAt k position))

/-- What cycle-boundary processing at the instant `t` makes of a state `u`, step by step (R94): stop; the
pending schedule, or else the follow-on where step 3 applies; hold; slot 0. -/
def State.BoundaryEffect (x : LineId) (t : Nat) (followOns : Bool) (cause : Cause) (u v : State) :
    Prop :=
  let l := u.line x
  let taken := l.pending.or (if followOns then l.active.bind (fun k => (u.dir k).followOn) else none)
  let active := taken.or l.active
  let count : Count16 := if taken.isSome then 0 else l.cycleCount
  let l' := { l with active := active, pending := none, cycleCount := count, slotIndex := 0 }
  let records := (taken.map (fun k => scheduleTakenRecord x k l.active)).toList
  if l.stopRequest = true ∨ l.lineState = .draining then
    v = (u.setLine x l.wentOff).posted (.lineController x)
      [lineChangeRecord x .off .stopped 0xFF l.cycleCount]
  else if (l.lineState = .running ∨ l.lineState = .waking) ∧ l.holdRequest = true then
    v = (u.setLine x { l' with lineState := .held }).posted (.lineController x)
      (records ++ [lineChangeRecord x .held .hold (u.slotNumber active 0) count])
  else if l.lineState = .running then
    v = ((u.setLine x l').posted (.lineController x) records).beginSlot x t
  else
    v = ((u.setLine x { l' with lineState := .running }).posted (.lineController x)
      (records ++ [lineChangeRecord x .running cause 0xFF count])).beginSlot x t

/-- What the release of a HELD line makes of a state `u`: the held slot begins in the same cycle, or at
position 0 the boundary is processed again without step 3 (R91, R95). -/
def State.ReleaseEffect (x : LineId) (u v : State) : Prop :=
  let l := u.line x
  if l.slotIndex = 0 then State.BoundaryEffect x l.time false .release u v
  else
    v = ((u.setLine x { l with lineState := .running }).posted (.lineController x)
      [lineChangeRecord x .running .release 0xFF l.cycleCount]).beginSlot x l.time

/-! ## Which steps concern a line -/

/-- The line a command names. -/
def Command.line : Command → Option LineId
  | .start x _ | .stopEnd x | .stopNow x | .switch x _ | .holdSet x | .holdClear x | .wake x
  | .clearFault x | .lineReset x | .supply x _ | .enqueue x _ | .cancel x _ => some x
  | .openPeek _ _ | .openTake _ _ | .commit => none
  | .erase t i => if t = .line then some (lineEntry i) else none

/-- The row of the opcode table at which the owner of a command takes it (R164). -/
def Command.row : Command → Instr
  | .start _ _ => .start
  | .stopEnd _ => .stopEnd
  | .stopNow _ => .stopNow
  | .switch _ _ => .switch
  | .holdSet _ => .holdSet
  | .holdClear _ => .holdClear
  | .wake _ => .wake
  | .clearFault _ => .clearFault
  | .lineReset _ => .lineReset
  | .supply _ _ => .supply
  | .enqueue _ _ => .enqueue
  | .cancel _ _ => .cancel
  | .openPeek _ _ => .openPeek
  | .openTake _ _ => .openTake
  | .commit => .commit
  | .erase _ _ => .erase

/-- The line whose controller a step acts on, if it acts on one: a line's own events, the line commands, and
a COMMIT or ERASE of its settings record. -/
def Instr.lineOf (s : State) : Instr → Option LineId
  | .start | .stopEnd | .stopNow | .switch | .holdSet | .holdClear | .wake | .clearFault
  | .lineReset | .supply | .enqueue | .cancel | .erase => s.accepted.bind Command.line
  | .commit => if s.port.table = .line then some (lineEntry s.port.index.toNat) else none
  | .holdPinLevelChange x | .slotEnd x | .alertEnd x | .markEnd x | .controlEnd x | .readback x _ _
  | .replyCharacter x _ _ _ | .replySpaceEnd x | .replyGapEnd x | .checkCompare x
  | .supplyWindowEnd x | .pushSpaceEnd x | .pushEnd x | .stuckLineReport x | .remoteWake x
  | .wakePulseEnd x | .recoveryEnd x | .replyStartBit x _ _ | .bitTimeJudged x _
  | .holdPinSample x _ => some x
  | .powerOnReset | .openPeek | .openTake | .pop _ | .intEnableWrite _ | .kindMaskWrite _
  | .portPointerWrite _ | .portDataRead | .portDataWrite _ | .portStateWrite _
  | .registerWrite _ _ | .postTaken _ | .resetRecordsPosted _ | .cmdWrite _ | .resetnRelease => none

/-! ## Ranges of the tables -/

/-- The ranges of R76, and D at least P (R77). -/
abbrev LineSettings.InRange (st : LineSettings) : Prop :=
  (80 ≤ st.divisor ∧ st.divisor ≤ 1666) ∧ (12 ≤ st.alert ∧ st.alert ≤ 20) ∧
  (2 ≤ st.mark ∧ st.mark ≤ 5) ∧ (2 ≤ st.replySpace ∧ st.replySpace ≤ 15) ∧ st.replyGap ≤ 7 ∧
  (1 ≤ st.pushSpace ∧ st.pushSpace ≤ 7) ∧ st.pushGap ≤ 3 ∧
  (4 ≤ st.supplyWindow ∧ st.supplyWindow ≤ 255) ∧ (30 ≤ st.stuckLimit ∧ st.stuckLimit ≤ 255) ∧
  (4 ≤ st.wakePulse ∧ st.wakePulse ≤ 16) ∧ (2 ≤ st.wakeQualify ∧ st.wakeQualify ≤ 15) ∧
  (16 ≤ st.recovery ∧ st.recovery ≤ 255) ∧ st.pushSpace ≤ st.supplyWindow

/-- The ranges of R39. -/
abbrev DescriptorConfig.InRange (c : DescriptorConfig) : Prop :=
  c.tag.toNat ≤ 126 ∧ (1 ≤ c.length ∧ c.length ≤ 12) ∧ (c.direction = .poll → c.supply = .stored)

/-- The ranges of R58. -/
abbrev DirectoryEntry.InRange (e : DirectoryEntry) : Prop :=
  e.firstSlot ≤ 127 ∧ (1 ≤ e.slotCount ∧ e.slotCount ≤ 128) ∧ e.firstSlot + e.slotCount ≤ 128

/-- The ranges of R59. -/
abbrev Slot.InRange (e : Slot) : Prop :=
  (8 ≤ e.length ∧ e.length ≤ 4095) ∧ e.divisor ∈ [1, 2, 4, 8, 16] ∧ e.phase < e.divisor ∧
    (e.kind ≠ .regular → e.descriptor = 0)

/-- The ranges of R136. -/
abbrev NodeConfig.InRange (c : NodeConfig) : Prop :=
  (1 ≤ c.missThreshold ∧ c.missThreshold ≤ 15) ∧ (1 ≤ c.errorThreshold ∧ c.errorThreshold ≤ 31) ∧
    c.probeDivisor ∈ [1, 2, 4, 8, 16, 32, 64, 128]

/-- Every entry of every table and both settings records hold values in their ranges, no two in-use
descriptors of one line share a tag (R46), and overwritten is set only while unread is (R51). -/
structure State.TablesInRange (s : State) : Prop where
  settings    : ∀ x, (s.line x).settings.InRange
  descriptors : ∀ d, (s.desc d).config.InRange
  directory   : ∀ k, (s.dir k).InRange
  slots       : ∀ i, (s.slot i).InRange
  nodes       : ∀ n, (s.node n).config.InRange
  tags        : ∀ d e, d ≠ e → (s.desc d).config.inUse = true → (s.desc e).config.inUse = true →
    (s.desc d).config.line = (s.desc e).config.line → (s.desc d).config.tag ≠ (s.desc e).config.tag
  flags       : ∀ d, (s.desc d).overwritten = true → (s.desc d).unread = true

/-! ## Nodes -/

/-- The bounds and meanings of a node's status fields (R137). -/
structure Node.Coherent (n : Node) : Prop where
  unused  : n.state = .unused ↔ n.config.inUse = false
  misses  : n.misses ≤ 255
  score   : n.score ≤ 31
  missing : n.state = .missing → n.config.missThreshold ≤ n.misses
  erratic : n.state = .erratic → 0 < n.score
  range   : n.config.InRange

/-- Every node record is coherent, and a node that a descriptor names is in use and on the descriptor's
line, the descriptor being in use (R45, R137). -/
structure State.NodesCoherent (s : State) : Prop where
  nodes      : ∀ n, (s.node n).Coherent
  references : ∀ d n, (s.desc d).config.node = some n →
    (s.desc d).config.inUse = true ∧ (s.node n).config.inUse = true ∧
      (s.node n).config.line = (s.desc d).config.line

/-! ## Event queue -/

/-- At most 32 records in the queue, the gap counter and every gap field 0 to 15 (R148, R151, R153). -/
structure EventUnit.Bounded (e : EventUnit) : Prop where
  count : e.queue.length ≤ 32
  gap   : e.gap ≤ 15
  gaps  : ∀ r ∈ e.queue, r.gap ≤ 15

/-! ## Lines -/

/-- The relations between the fields of one line controller that the chapters state. -/
structure LineController.Coherent (l : LineController) : Prop where
  /-- A line is OFF exactly when its active schedule is none (R81). -/
  offActive    : l.lineState = .off ↔ l.active = none
  /-- A pending schedule exists only while an active one does (R81). -/
  offPending   : l.lineState = .off → l.pending = none
  /-- Going OFF clears the monitor and the pin level (R84, R121). -/
  offMonitor   : l.lineState = .off → l.monitor = .off ∧ l.pinAsserted = false
  /-- The monitor is active in every state but OFF (R80). -/
  monitored    : l.lineState ≠ .off → l.monitor.active = true
  /-- A stop request stands only in DRAINING, ASLEEP, WAKING and FAULT (R97). -/
  stopState    : l.stopRequest = true →
    l.lineState = .draining ∨ l.lineState = .asleep ∨ l.lineState = .waking ∨ l.lineState = .fault
  /-- DRAINING is entered with the stop request (R97). -/
  drainingStop : l.lineState = .draining → l.stopRequest = true
  /-- The slot index is 0 outside RUNNING, DRAINING and HELD (R82). -/
  resting      : l.slotIndex ≠ 0 →
    l.lineState = .running ∨ l.lineState = .draining ∨ l.lineState = .held
  /-- The wake phase is NONE in every line state other than WAKING, and not in WAKING (R121). -/
  wakePhase    : l.monitor.wakePhase ≠ .none ↔ l.lineState = .waking
  /-- The qualify count is other than none in ASLEEP alone (R121). -/
  qualify      : l.monitor.qualifyCount ≠ none → l.lineState = .asleep
  /-- The run count stops at 255 (R121). -/
  runCount     : l.monitor.runCount ≤ 255
  /-- Frames are in flight in RUNNING and DRAINING alone (R80). -/
  frameState   : l.seq.frameState ≠ .idle → l.lineState = .running ∨ l.lineState = .draining
  /-- In IDLE the frame's fields are absent (R17). -/
  idleFields   : l.seq.frameState = .idle →
    l.seq.source = none ∧ l.seq.descriptor = none ∧ l.seq.kind = none ∧ l.seq.length = none ∧
      l.seq.controlEnd = none ∧ l.seq.supplyRequest = none
  /-- Outside IDLE the source, the kind and the length are there (R17). -/
  frameFields  : l.seq.frameState ≠ .idle →
    l.seq.source ≠ none ∧ l.seq.kind ≠ none ∧ l.seq.length ≠ none
  /-- The descriptor is absent for a hush frame alone, and its source and kind are HUSH (R17, R18). -/
  hushFields   : l.seq.frameState ≠ .idle →
    (l.seq.descriptor = none ↔ l.seq.source = some .hush) ∧
      (l.seq.descriptor = none ↔ l.seq.kind = some .hush)
  /-- The supply request stands in SUPPLY_WAIT alone and is the frame descriptor (R29). -/
  supply       : l.seq.supplyRequest ≠ none →
    l.seq.frameState = .supplyWait ∧ l.seq.supplyRequest = l.seq.descriptor
  /-- The in-flight request is the descriptor of an ad-hoc frame in flight (R110). -/
  inFlight     : l.inFlight = if l.seq.source = some .adHoc then l.seq.descriptor else none
  /-- The queue holds at most 8 requests, no descriptor twice, and not the one in flight (R110). -/
  queue        : l.queue.length ≤ 8 ∧ l.queue.Nodup ∧ ∀ d, l.inFlight = some d → d ∉ l.queue

/-- Both controllers are coherent. -/
def State.LinesCoherent (s : State) : Prop := ∀ x, (s.line x).Coherent

/-- The ad-hoc state of every descriptor is the view that R57 gives of its line's queue and in-flight
request, and the descriptors there are in use on that line (R57, R110). -/
structure State.AdhocViews (s : State) : Prop where
  lines    : s.LinesCoherent
  queued   : ∀ x d, d ∈ (s.line x).queue ↔
    (s.desc d).adhoc = .queued ∧ (s.desc d).config.line = x
  inFlight : ∀ x d, (s.line x).inFlight = some d ↔
    (s.desc d).adhoc = .inFlight ∧ (s.desc d).config.line = x
  inUse    : ∀ d, (s.desc d).adhoc ≠ .none → (s.desc d).config.inUse = true

/-- Every active and pending schedule passes validation for its line, a line that is OFF has neither, and a
line's slot index lies inside its active schedule (R70, R81, R82). -/
structure State.SchedulesValid (s : State) : Prop where
  counts : ∀ k, 1 ≤ (s.dir k).slotCount
  off    : ∀ x, (s.line x).lineState = .off → (s.line x).active = none ∧ (s.line x).pending = none
  valid  : ∀ x k, (s.line x).active = some k ∨ (s.line x).pending = some k →
    s.validationFailure x k = none
  index  : ∀ x k, (s.line x).active = some k → (s.line x).slotIndex < (s.dir k).slotCount

end Sys2Proof.Machine
end

