-- ==== Sys2Proof/WellFormed.lean ====
section
/-! DEFINITION. Which terms of `Instr` are steps of the opcode table: the operand ranges that the types
alone do not hold. -/

namespace Sys2Proof

/-- The register addresses whose write has a row of its own in the opcode table: CMD, INT enable, kind
mask, pop, port pointer, port data and port state (R160, R173). -/
def ownRowAddresses : List Nat := [0x03, 0x0C, 0x0D, 0x0F, 0x1A, 0x1B, 0x1C]

/-- The bit times of the longest run of sent bits: the data part of a push of 12 bytes with the widest
push gap, 13 characters of 10 bits and 12 gaps of 3 (R5, R33). -/
def longestSentRun : Nat := 166

/-- Well-formedness of a step: REGISTER_WRITE is a write to a register without behaviour of its own, and
READBACK names a bit time that some frame state can send. -/
def Instr.wf : Instr → Bool
  | .registerWrite address _ => !(ownRowAddresses.contains address.toNat)
  | .readback _ bit _ => decide (bit < longestSentRun)
  | _ => true

end Sys2Proof
end

