-- ==== Sys2Proof/Certificates/Slice0/Obligations.lean ====
section
/-! DEFINITION. The statements for the provers, one for each rule or group of rules of the spec that says
what a step or the device does. -/

open Sys2Proof Sys2Proof.Machine

/-! ## The step and the queue of waiting steps -/

/-- The step takes the command at the front of the queue and runs it on the state with the queue's rest. -/
def Obligations.StepTakesTheFrontCommand : Prop :=
  ∀ (c : Instr) (rest : List Instr) (s : State), s.pending = c :: rest →
    step s = exec c { s with pending := rest }

/-- On an empty queue one REFCLK period passes on both lines: the clocks advance by one; the bit position is
the bit within the character in HEADER and REPLY, and the bit time since the state began elsewhere; the
character count of a push advances at the end of each character sent; the pulse count of a wake pulse falls
from W by 1 at the end of each bit time of the base; nothing else changes. The tick is the model's choice
(assumption 4), and so are the bit position in a push gap, in the PUSH_SPACE of a deferred push and behind a
reply character that has been taken (assumptions 20, 21 and 24). -/
def Obligations.EmptyQueueStepIsOneClockPeriod : Prop :=
  ∀ s : State, s.pending = [] → ∃ t, step s = .next t ∧
    t = { s with lineA := t.lineA, lineB := t.lineB } ∧
    ∀ x,
      let l := s.line x
      let st := l.settings
      let q := l.seq
      let since := match l.slotStart with
        | some origin => l.time + 1 - origin
        | none => 0
      let began := match q.frameState with
        | .idle | .alert => 0
        | .mark => st.alert * st.divisor
        | .header => (st.alert + st.mark) * st.divisor
        | .replyWait | .supplyWait | .pushSpace => q.controlEnd.getD 0 * st.divisor
        | .reply => (q.startEdge.or q.lastCharEnd).getD 0
        | .push => q.pushStart.getD 0
      let bits := (since - began) / st.divisor
      t.line x =
        { l with
          time := l.time + 1,
          seq :=
            { q with
              bitPosition := (match q.frameState with
                | .idle => q.bitPosition
                | .header | .reply => bits % 10
                | .push => bits % (10 + st.pushGap)
                | _ => bits),
              charCount :=
                if q.frameState = .push then (bits + st.pushGap) / (10 + st.pushGap)
                else q.charCount },
          monitor :=
            { l.monitor with
              pulseCount :=
                if l.monitor.wakePhase = .pulse then st.wakePulse - since / st.divisor
                else l.monitor.pulseCount } }

/-- Every step of the opcode table completes in every state, and none of them touches the queue of waiting
steps. That a step which finds nothing to take completes all the same is the model's choice (assumptions 2
and 3). -/
def Obligations.EveryStepCompletesAndLeavesTheQueue : Prop :=
  ∀ (c : Instr) (s : State), ∃ t, exec c s = .next t ∧ t.pending = s.pending

/-! ## Power-on reset -/

/-- A power-on reset gives every table entry and every field of both lines the value its chapter states; the
release of RESETn, which is a step of its own (assumption 17), changes none of them. -/
def Obligations.PowerOnResetOfTablesAndLines : Prop :=
  (∀ s : State, exec .resetnRelease s = .next { s with inReset := false }) ∧
  ∀ s : State, ∃ t, exec .powerOnReset s = .next t ∧
    (∀ d, t.desc d =
      { config := { inUse := false, line := .a, tag := 0, direction := .poll, length := 1,
                    supply := .stored, node := none, notify := .none },
        data := Vector.replicate 12 0x00, lastOutcome := none, stamp := 0, frameCounter := 0,
        unread := false, overwritten := false, suspect := false, adhoc := .none }) ∧
    (∀ k, t.dir k = { inUse := false, firstSlot := 0, slotCount := 1, followOn := none }) ∧
    (∀ i, t.slot i = { kind := .empty, length := 8, divisor := 1, phase := 0, descriptor := 0 }) ∧
    (∀ n, t.node n =
      { config := { inUse := false, line := .a, missThreshold := 1, errorThreshold := 1,
                    probeDivisor := 1, notify := false },
        state := .unused, misses := 0, score := 0 }) ∧
    ∀ x,
      (t.line x).settings =
        { divisor := 208, alert := 13, mark := 2, replySpace := 6, replyGap := 2, pushSpace := 2,
          pushGap := 0, supplyWindow := 40, stuckLimit := 60, wakePulse := 8, wakeQualify := 4,
          recovery := 40, holdPoint := .slot, holdPinEnable := false } ∧
      (t.line x).lineState = .off ∧ (t.line x).active = none ∧ (t.line x).pending = none ∧
      (t.line x).slotIndex = 0 ∧ (t.line x).cycleCount = 0 ∧ (t.line x).stopRequest = false ∧
      (t.line x).holdFlag = false ∧ (t.line x).pinAsserted = false ∧
      (t.line x).holdRequest = false ∧ (t.line x).slotStart = none ∧
      (t.line x).queue = [] ∧ (t.line x).inFlight = none ∧
      (t.line x).monitor =
        { active := false, runCount := 0, stuckReported := false, qualifyCount := none,
          wakePhase := .none, pulseCount := 0, recoveryCount := 0 } ∧
      (t.line x).seq.frameState = .idle ∧ (t.line x).seq.source = none ∧
      (t.line x).seq.descriptor = none ∧ (t.line x).seq.kind = none ∧
      (t.line x).seq.length = none ∧ (t.line x).seq.txBuffer = Vector.replicate 15 0x00 ∧
      (t.line x).seq.rxBuffer = Vector.replicate 13 0x00 ∧ (t.line x).seq.runningCheck = 0xFF ∧
      (t.line x).seq.bitPosition = 0 ∧ (t.line x).seq.charCount = 0 ∧
      (t.line x).seq.controlEnd = none ∧ (t.line x).seq.supplyRequest = none ∧
      (t.line x).pin = .recessive

/-- A power-on reset gives the host side its values. While RESETn stays asserted, in whatever state, every
register reads 00h, every write of the register window is ignored and a read of port data gives 00h; its
release changes nothing else, and the window then reads as the register map gives it. The two rows that
begin and end the reset are read as the model's assumption 17 says. -/
def Obligations.PowerOnResetOfTheHostSide : Prop :=
  (∀ s : State, exec .resetnRelease s = .next { s with inReset := false }) ∧
  (∀ s : State, s.inReset = true →
    (∀ a, s.readRegister a = 0x00) ∧
    (∀ a v, exec (.registerWrite a v) s = .next s) ∧
    (∀ v, ∀ c ∈ [Instr.cmdWrite v, .pop v, .intEnableWrite v, .kindMaskWrite v, .portPointerWrite v,
        .portDataWrite v, .portStateWrite v], exec c s = .next s) ∧
    exec .portDataRead s = .next { s with readData := 0x00 }) ∧
  ∀ s : State, ∃ t, exec .powerOnReset s = .next t ∧ t.inReset = true ∧
    t.host =
      { busy := false, collided := false, command := 0x00, latch0 := 0x00, latch1 := 0x00,
        arg0 := 0x00, arg1 := 0x00, arg2 := 0x00, arg3 := 0x00, result := .done, detail := 0x00 } ∧
    t.port =
      { isOpen := false, table := .descriptor, index := 0x00, pointer := 0,
        buffer := Vector.replicate 32 0x00 } ∧
    t.events =
      { queue := [], gap := 0, kindMask := 0x4E, intEnable := false, pathA := [], pathB := [],
        pathTable := [], pathNode := [], pathUnit := [], holds := [] } ∧
    t.events.intAsserted = false ∧
    (List.range 32).map
        (fun a => ({ t with inReset := false } : State).readRegister (BitVec.ofNat 5 a)) =
      [0x2C, 0x01, 0x00, 0x00, 0x00, 0x00, 0x00, 0x00, 0x00, 0x00, 0x00, 0x00, 0x00, 0x4E, 0x00, 0x00,
       0x00, 0xFF, 0x00, 0x00, 0x00, 0x00, 0x00, 0x00, 0x00, 0x00, 0x00, 0x00, 0x00, 0x00, 0x00, 0x00]

/-! ## The field line -/

/-- The tag byte holds the tag and odd parity, the control byte the direction, L − 1 and the frame counter,
and both are sent bit 0 first, a 0 being dominant. -/
def Obligations.TagAndControlBytes : Prop :=
  (∀ tag : BitVec 7, (tagByte tag).setWidth 7 = tag ∧
    ((List.range 8).filter (fun i => (tagByte tag).getLsbD i)).length % 2 = 1) ∧
  (∀ (direction : Direction) (length : Nat) (counter : BitVec 3), 1 ≤ length → length ≤ 12 →
    ((controlByte direction length counter).getLsbD 7 = true ↔ direction = .push) ∧
    ((controlByte direction length counter).extractLsb' 3 4).toNat = length - 1 ∧
    (controlByte direction length counter).extractLsb' 0 3 = counter) ∧
  (∀ (byte : Byte) (k : Nat), k < 8 →
    characterBit byte (k + 1) = if byte.getLsbD k then .recessive else .dominant) ∧
  tagByte 0x10 = 0x10 ∧ tagByte 0x11 = 0x91 ∧ controlByte .poll 4 5 = 0x1D ∧
  controlByte .push 2 3 = 0x8B ∧ controlByte .push 1 0 = 0x80

/-- The check register divides each byte by the polynomial, most significant bit first: a message followed
by its check leaves 00h, the register is linear in the bytes, and the hush frame gives the values worked
out under R9. -/
def Obligations.CheckRegisterDividesByThePolynomial : Prop :=
  (∀ bytes : List Byte, crcFrom 0xFF (bytes ++ [crcFrom 0xFF bytes]) = 0x00) ∧
  (∀ r b c : Byte, crcByte (r ^^^ b) c = crcByte r c ^^^ crcByte b 0x00) ∧
  crcByte 0x01 0x00 = 0x2F ∧
  crcByte 0xFF 0x7F = 0xE3 ∧ crcByte 0xE3 0x80 = 0xE4 ∧ crcByte 0xE4 0x00 = 0xCA ∧
  hushBytes = [0x7F, 0x80, 0x00, 0xCA]

/-- The maximum frame times of R15, the kind of a descriptor's frame, the longest time each kind of frame can
take under R10 to R13, the greatest values the ranges permit and the slot too short for any frame. -/
def Obligations.MaximumFrameTimes : Prop :=
  (∀ (st : LineSettings) (length : Nat),
    maxFrameTime st .poll length =
      st.alert + st.mark + 20 + st.replySpace + (length + 1) * (10 + st.replyGap) ∧
    maxFrameTime st .storedPush length =
      st.alert + st.mark + 20 + st.pushSpace + (length + 1) * (10 + st.pushGap) ∧
    maxFrameTime st .deferredPush length =
      st.alert + st.mark + 20 + st.supplyWindow + (length + 1) * (10 + st.pushGap) ∧
    maxFrameTime st .hush length =
      st.alert + st.mark + 20 + st.pushSpace + 2 * (10 + st.pushGap)) ∧
  (∀ c : DescriptorConfig,
    frameKindOf c =
      if c.direction = .poll then .poll
      else if c.supply = .stored then .storedPush else .deferredPush) ∧
  (∀ (st : LineSettings) (length : Nat), st.InRange → 1 ≤ length → length ≤ 12 →
    headerTime st + st.replySpace + (length + 1) * 10 + length * st.replyGap
        ≤ maxFrameTime st .poll length ∧
    headerTime st + st.pushSpace + (length + 1) * 10 + length * st.pushGap
        ≤ maxFrameTime st .storedPush length ∧
    headerTime st + st.supplyWindow + (length + 1) * 10 + length * st.pushGap
        ≤ maxFrameTime st .deferredPush length ∧
    headerTime st + st.pushSpace + 20 + st.pushGap ≤ maxFrameTime st .hush 1 ∧
    maxFrameTime st .poll length ≤ 281 ∧ maxFrameTime st .storedPush length ≤ 221 ∧
    maxFrameTime st .deferredPush length ≤ 469 ∧ 34 ≤ headerTime st ∧
    ∀ kind, fits st kind length 8 = false) ∧
  (∃ st : LineSettings, st.InRange ∧ maxFrameTime st .poll 12 = 281 ∧
    maxFrameTime st .storedPush 12 = 221 ∧ maxFrameTime st .deferredPush 12 = 469) ∧
  (∃ st : LineSettings, st.InRange ∧ headerTime st = 34)

/-! ## The command unit -/

/-- A write to CMD: accepted while BUSY is clear, with its latches filled and checked; ignored with COLLIDED
set while BUSY is set; ignored while RESETn is asserted. Later writes to ARG0 and ARG1 leave the latches. The
taking of a command that passes is a step of its own (assumption 2); that a command refused BAD_ARG completes
within the write, BUSY being clear after it, is an inference (assumption 23). -/
def Obligations.CommandWrite : Prop :=
  (∀ (s : State) (v : Byte), s.inReset = false → s.host.busy = false →
    ∃ t, exec (.cmdWrite v) s = .next t ∧ t = s.setHost t.host ∧
      t.host.collided = false ∧ t.host.command = v ∧ t.readRegister 0x03 = v ∧
      t.host.latch0 = s.host.arg0 ∧ t.host.latch1 = s.host.arg1 ∧
      t.host.arg0 = s.host.arg0 ∧ t.host.arg1 = s.host.arg1 ∧ t.host.arg2 = s.host.arg2 ∧
      t.host.arg3 = s.host.arg3 ∧
      (∀ cmd, decodeCommand v s.host.arg0 s.host.arg1 = .ok cmd →
        t.host.busy = true ∧ t.accepted = some cmd ∧
          t.host.result = s.host.result ∧ t.host.detail = s.host.detail) ∧
      (∀ detail, decodeCommand v s.host.arg0 s.host.arg1 = .error detail →
        t.host.busy = false ∧ t.accepted = none ∧
          t.host.result = .badArg ∧ t.host.detail = detail)) ∧
  (∀ (s : State) (v : Byte), s.inReset = false → s.host.busy = true →
    exec (.cmdWrite v) s = .next (s.setHost { s.host with collided := true })) ∧
  (∀ (s : State) (v : Byte), s.inReset = true → exec (.cmdWrite v) s = .next s) ∧
  (∀ (s : State) (a : BitVec 5) (v : Byte), a = 0x04 ∨ a = 0x05 →
    ∃ t, exec (.registerWrite a v) s = .next t ∧
      t.host.latch0 = s.host.latch0 ∧ t.host.latch1 = s.host.latch1) ∧
  (∀ s : State, ∃ t, exec .powerOnReset s = .next t ∧ t.host.command = 0x00 ∧
    t.host.latch0 = 0x00 ∧ t.host.latch1 = 0x00 ∧ t.host.arg0 = 0x00 ∧ t.host.arg1 = 0x00 ∧
    t.host.arg2 = 0x00 ∧ t.host.arg3 = 0x00)

/-- The command unit's checks: an unknown code is refused with DETAIL FFh, then the arguments a command uses
are checked in register order, the first that fails giving its register number. -/
def Obligations.CommandCodesAndArguments : Prop :=
  ∀ code a0 a1 : Byte,
    (code ∉ [0x01, 0x02, 0x03, 0x04, 0x05, 0x06, 0x07, 0x08, 0x09, 0x10, 0x11, 0x12, 0x20, 0x21, 0x22,
        0x23] → decodeCommand code a0 a1 = .error 0xFF) ∧
    (∀ make, (code, make) ∈ [((0x01 : Byte), Command.start), (0x04, Command.switch)] →
      (2 ≤ a0.toNat → decodeCommand code a0 a1 = .error 0x00) ∧
      ∀ x, a0 = lineCode x →
        (8 ≤ a1.toNat → decodeCommand code a0 a1 = .error 0x01) ∧
        ∀ k : Fin 8, a1.toNat = k.val → decodeCommand code a0 a1 = .ok (make x k)) ∧
    (∀ make, (code, make) ∈
        [((0x02 : Byte), Command.stopEnd), (0x03, Command.stopNow), (0x05, Command.holdSet),
         (0x06, Command.holdClear), (0x07, Command.wake), (0x08, Command.clearFault),
         (0x09, Command.lineReset)] →
      (2 ≤ a0.toNat → decodeCommand code a0 a1 = .error 0x00) ∧
      ∀ x, a0 = lineCode x → decodeCommand code a0 a1 = .ok (make x)) ∧
    (∀ make, (code, make) ∈
        [((0x10 : Byte), Command.supply), (0x11, Command.enqueue), (0x12, Command.cancel)] →
      (2 ≤ a0.toNat → decodeCommand code a0 a1 = .error 0x00) ∧
      ∀ x, a0 = lineCode x →
        (64 ≤ a1.toNat → decodeCommand code a0 a1 = .error 0x01) ∧
        ∀ d : Fin 64, a1.toNat = d.val → decodeCommand code a0 a1 = .ok (make x d)) ∧
    (∀ make, (code, make) ∈
        [((0x20 : Byte), Command.openPeek), (0x21, Command.openTake), (0x23, Command.erase)] →
      (6 ≤ a0.toNat → decodeCommand code a0 a1 = .error 0x00) ∧
      ∀ table n, (table, n) ∈
          [(TableId.descriptor, 64), (.slot, 128), (.directory, 8), (.node, 32), (.line, 2),
           (.adhoc, 2)] → a0 = tableCode table →
        (n ≤ a1.toNat → decodeCommand code a0 a1 = .error 0x01) ∧
        (a1.toNat < n → decodeCommand code a0 a1 = .ok (make table a1.toNat))) ∧
    (code = 0x22 → decodeCommand code a0 a1 = .ok .commit)

/-- A command step for which the command unit holds no accepted command, or another command than its own,
changes nothing. An event whose condition does not hold changes nothing: one of the sequencer outside its frame
state, one of the reply whose character is not in assembly, or is, or whose count is not the one it needs; a
slot end outside RUNNING and DRAINING or during a frame; a stuck-line report, a remote wake, a pulse end or a
recovery end that is not due; a HOLD pin level that stands already; the release of records where no reset
holds any; and every event of a line that is OFF with its sequencer IDLE and its monitor inactive. That such
a step is allowed and empty is the model's choice (assumptions 2 and 3). -/
def Obligations.StepsThatFindNothingChangeNothing : Prop :=
  (∀ s : State, s.accepted = none →
    ∀ c ∈ [Instr.start, .stopEnd, .stopNow, .switch, .holdSet, .holdClear, .wake, .clearFault,
        .lineReset, .supply, .enqueue, .cancel, .openPeek, .openTake, .commit, .erase],
      exec c s = .next s) ∧
  (∀ (s : State) (held : Command), s.accepted = some held →
    ∀ c ∈ [Instr.start, .stopEnd, .stopNow, .switch, .holdSet, .holdClear, .wake, .clearFault,
        .lineReset, .supply, .enqueue, .cancel, .openPeek, .openTake, .commit, .erase],
      c ≠ held.row → exec c s = .next s) ∧
  (∀ (s : State) (x : LineId),
    let l := s.line x
    let q := l.seq
    let empty (c : Instr) : Prop := exec c s = .next s
    (q.frameState ≠ .alert → empty (.alertEnd x)) ∧
    (q.frameState ≠ .mark → empty (.markEnd x)) ∧
    (q.frameState ≠ .header → empty (.controlEnd x)) ∧
    (q.frameState ≠ .replyWait → empty (.replySpaceEnd x)) ∧
    (q.frameState ≠ .supplyWait → empty (.supplyWindowEnd x)) ∧
    (q.frameState ≠ .pushSpace → empty (.pushSpaceEnd x)) ∧
    (q.frameState ≠ .push → empty (.pushEnd x)) ∧
    (q.frameState ≠ .replyWait → q.frameState ≠ .reply →
      ∀ edge samples, empty (.replyStartBit x edge samples)) ∧
    (q.frameState ≠ .reply ∨ q.startEdge = none →
      ∀ first second third, empty (.replyCharacter x first second third)) ∧
    (q.frameState ≠ .reply ∨ q.startEdge ≠ none ∨
        (∃ length, q.length = some length ∧ length < q.charCount) → empty (.replyGapEnd x)) ∧
    (q.frameState ≠ .reply ∨ q.startEdge ≠ none ∨
        (∃ length, q.length = some length ∧ q.charCount ≠ length + 1) → empty (.checkCompare x)) ∧
    (l.lineState ≠ .running ∧ l.lineState ≠ .draining ∨ q.frameState ≠ .idle →
      empty (.slotEnd x)) ∧
    (l.monitor.active = false ∨ l.monitor.stuckReported = true ∨
        l.monitor.runCount < l.settings.stuckLimit → empty (.stuckLineReport x)) ∧
    (l.lineState ≠ .asleep ∨ l.monitor.qualifyCount ≠ some 0 → empty (.remoteWake x)) ∧
    (l.lineState ≠ .waking ∨ l.monitor.wakePhase ≠ .pulse → empty (.wakePulseEnd x)) ∧
    (l.lineState ≠ .waking ∨ l.monitor.wakePhase ≠ .recovery ∨
        l.monitor.recoveryCount < l.settings.recovery → empty (.recoveryEnd x)) ∧
    (l.lineState = .off ∨ l.lastSample ≠ l.previousSample ∨
        (l.pinAsserted = true ↔ l.lastSample = .low) → empty (.holdPinLevelChange x)) ∧
    (l.lineState = .off → ∀ reading, empty (.holdPinSample x reading)) ∧
    (l.monitor.active = false → ∀ samples, empty (.bitTimeJudged x samples)) ∧
    ((∀ h ∈ s.events.holds, h.line ≠ x) → empty (.resetRecordsPosted x))) ∧
  (∀ (s : State) (x : LineId), (s.line x).lineState = .off → (s.line x).seq.frameState = .idle →
    (s.line x).monitor.active = false →
    ∀ (bit edge : Nat) (samples : Samples) (b0 b1 b2 : BitVec 9) (reading : PinLevel),
    ∀ c ∈ [Instr.holdPinLevelChange x, .slotEnd x, .alertEnd x, .markEnd x, .controlEnd x,
        .readback x bit samples, .replyCharacter x b0 b1 b2, .replySpaceEnd x, .replyGapEnd x,
        .checkCompare x, .supplyWindowEnd x, .pushSpaceEnd x, .pushEnd x, .stuckLineReport x,
        .remoteWake x, .wakePulseEnd x, .recoveryEnd x, .replyStartBit x edge samples,
        .bitTimeJudged x samples, .holdPinSample x reading],
      exec c s = .next s)

/-! ## Line commands -/

/-- START: refused outside OFF and on a schedule that fails validation; otherwise the schedule becomes active
with cycle count 0, SCHEDULE_TAKEN and LINE_CHANGE RUNNING are posted in this order, the monitor and the
HOLD sampler start, and slot 0 begins. -/
def Obligations.StartCommand : Prop :=
  ∀ (s : State) (x : LineId) (k : Fin 8), s.accepted = some (.start x k) →
    ((s.line x).lineState ≠ .off →
      exec .start s = .next (s.complete { result := .wrongState, detail := 0x00 })) ∧
    ((s.line x).lineState = .off → ∀ detail, s.validationFailure x k = some detail →
      exec .start s = .next (s.complete { result := .invalidSchedule, detail := detail })) ∧
    ((s.line x).lineState = .off → (s.line x).active = none → s.validationFailure x k = none →
      exec .start s = .next
        ((((s.setLine x
              { s.line x with
                lineState := .running, active := some k, slotIndex := 0, cycleCount := 0,
                monitor :=
                  { active := true, runCount := 0, stuckReported := false, qualifyCount := none,
                    wakePhase := .none, pulseCount := 0, recoveryCount := 0 },
                pinAsserted := false, lastSample := .high, previousSample := .high }).posted
            (.lineController x)
            [scheduleTakenRecord x k none, lineChangeRecord x .running .command 0xFF 0]).beginSlot x
          (s.line x).time).complete { result := .done, detail := 0x00 }))

/-- STOP_END by line state; the DETAIL of its answer is open (assumption 1). That going OFF makes the slot start
absent is an inference (assumption 6). -/
def Obligations.StopEndCommand : Prop :=
  ∀ (s : State) (x : LineId), s.accepted = some (.stopEnd x) →
    ∃ t, exec .stopEnd s = .next t ∧
      ((s.line x).lineState = .off → s.Answered .wrongState t) ∧
      ((s.line x).lineState = .draining → s.Answered .done t) ∧
      ((s.line x).lineState = .running →
        ((s.setLine x { s.line x with stopRequest := true, lineState := .draining }).posted
          (.lineController x)
          [lineChangeRecord x .draining .command 0xFF (s.line x).cycleCount]).Answered .done t) ∧
      ((s.line x).lineState = .waking →
        (s.setLine x { s.line x with stopRequest := true }).Answered .done t) ∧
      ((s.line x).lineState = .held ∨ (s.line x).lineState = .asleep ∨
          (s.line x).lineState = .fault →
        ((s.setLine x (s.line x).wentOff).posted (.lineController x)
          [lineChangeRecord x .off .command 0xFF (s.line x).cycleCount]).Answered .done t)

/-- STOP_NOW, and what going OFF does: a frame in flight ends CANCELLED first; the schedules, the stop request,
the slot index, the monitor and the pin level return to their values and the line's part of the locked
closure is empty; cycle count, hold flag, ad-hoc queue and settings are kept. That the slot start becomes
absent is read from the spec by inference (assumption 6). -/
def Obligations.StopNowCommand : Prop :=
  (∀ l : LineController, l.wentOff =
    { l with
      lineState := .off, active := none, pending := none, stopRequest := false, slotIndex := 0,
      monitor :=
        { active := false, runCount := 0, stuckReported := false, qualifyCount := none,
          wakePhase := .none, pulseCount := 0, recoveryCount := 0 },
      pinAsserted := false, slotStart := none, hushOk := false, bitsJudged := 0, bitsSampled := 0 }) ∧
  ∀ (s : State) (x : LineId), s.accepted = some (.stopNow x) →
    ((s.line x).lineState = .off →
      exec .stopNow s = .next (s.complete { result := .wrongState, detail := 0x00 })) ∧
    ((s.line x).lineState ≠ .off → ∃ u t, exec .stopNow s = .next t ∧
      ((s.line x).seq.frameState = .idle → u = s) ∧
      (∀ d source kind, s.DescriptorFrame x d source kind →
        State.FrameEnded x d source kind .cancelled [] s u) ∧
      (s.HushFrame x → State.HushEnded x .cancelled s u) ∧
      (u.line x).time = (s.line x).time ∧
      t = ((u.setLine x (u.line x).wentOff).posted (.lineController x)
            [lineChangeRecord x .off .command 0xFF (u.line x).cycleCount]).complete
              { result := .done, detail := 0x00 } ∧
      t.lineClosure x = [])

/-- SWITCH: refused in OFF and DRAINING, validated in every other state, and on success set as the pending
schedule in place of any earlier one, with nothing else of the line touched. -/
def Obligations.SwitchCommand : Prop :=
  ∀ (s : State) (x : LineId) (k : Fin 8), s.accepted = some (.switch x k) →
    ((s.line x).lineState = .off ∨ (s.line x).lineState = .draining →
      exec .switch s = .next (s.complete { result := .wrongState, detail := 0x00 })) ∧
    ((s.line x).lineState ≠ .off → (s.line x).lineState ≠ .draining →
      (∀ detail, s.validationFailure x k = some detail →
        exec .switch s = .next (s.complete { result := .invalidSchedule, detail := detail })) ∧
      (s.validationFailure x k = none →
        exec .switch s = .next
          ((s.setLine x { s.line x with pending := some k }).complete
            { result := .done, detail := 0x00 })))

/-- The hold request is formed from the hold flag and the enabled pin level; HOLD_SET and HOLD_CLEAR change
the flag alone and are answered DONE in every line state, except where HOLD_CLEAR releases a HELD line. -/
def Obligations.HoldCommands : Prop :=
  (∀ l : LineController, l.holdRequest = true ↔
    l.holdFlag = true ∨ (l.settings.holdPinEnable = true ∧ l.pinAsserted = true)) ∧
  (∀ (s : State) (x : LineId), s.accepted = some (.holdSet x) →
    exec .holdSet s = .next
      ((s.setLine x { s.line x with holdFlag := true }).complete
        { result := .done, detail := 0x00 })) ∧
  (∀ (s : State) (x : LineId), s.accepted = some (.holdClear x) →
    (s.line x).lineState ≠ .held ∨ (s.line x).holdRequest = false ∨
      ((s.line x).settings.holdPinEnable = true ∧ (s.line x).pinAsserted = true) →
    exec .holdClear s = .next
      ((s.setLine x { s.line x with holdFlag := false }).complete
        { result := .done, detail := 0x00 }))

/-- The hold request going inactive in HELD, by HOLD_CLEAR or by the pin level, releases the line: at a position
other than 0 the held slot begins in the same cycle, at position 0 the boundary is processed again without
its follow-on step. That LINE_CHANGE RUNNING comes before the records of the slot is an inference
(assumption 10), and so is, where the boundary ends in OFF or in HELD again, that the slot start becomes
absent and that it keeps its value (assumptions 6 and 12). -/
def Obligations.ReleaseFromHeld : Prop :=
  (∀ (s : State) (x : LineId), s.accepted = some (.holdClear x) → (s.line x).lineState = .held →
    (s.line x).holdFlag = true →
    ¬ ((s.line x).settings.holdPinEnable = true ∧ (s.line x).pinAsserted = true) →
    ∃ u, State.ReleaseEffect x (s.setLine x { s.line x with holdFlag := false }) u ∧
      exec .holdClear s = .next (u.complete { result := .done, detail := 0x00 })) ∧
  (∀ (s : State) (x : LineId), (s.line x).lineState = .held → (s.line x).pinAsserted = true →
    (s.line x).settings.holdPinEnable = true → (s.line x).holdFlag = false →
    (s.line x).lastSample = .high → (s.line x).previousSample = .high →
    ∃ u, State.ReleaseEffect x (s.setLine x { s.line x with pinAsserted := false }) u ∧
      exec (.holdPinLevelChange x) s = .next u)

/-- WAKE starts a wake pulse of W bit times on a new origin in ASLEEP, the pin being dominant from then on;
CLEAR_FAULT starts recovery on a new origin in FAULT unless the wire is low; and each is refused WRONG_STATE
in every other state. -/
def Obligations.WakeAndClearFaultCommands : Prop :=
  (∀ (s : State) (x : LineId), s.accepted = some (.wake x) →
    ((s.line x).lineState ≠ .asleep →
      exec .wake s = .next (s.complete { result := .wrongState, detail := 0x00 })) ∧
    ((s.line x).lineState = .asleep → ∃ t, exec .wake s = .next t ∧ (t.line x).pin = .dominant ∧
      t = ((s.setLine x
          { s.line x with
            lineState := .waking, slotStart := some (s.line x).time, bitsJudged := 0,
            bitsSampled := 0,
            monitor :=
              { (s.line x).monitor with
                qualifyCount := none, wakePhase := .pulse,
                pulseCount := (s.line x).settings.wakePulse } }).posted (.lineController x)
        [lineChangeRecord x .waking .command 0xFF (s.line x).cycleCount]).complete
          { result := .done, detail := 0x00 })) ∧
  (∀ (s : State) (x : LineId), s.accepted = some (.clearFault x) →
    ((s.line x).lineState ≠ .fault →
      exec .clearFault s = .next (s.complete { result := .wrongState, detail := 0x00 })) ∧
    ((s.line x).lineState = .fault → 0 < (s.line x).monitor.runCount →
      exec .clearFault s = .next
        (s.complete
          { result := .lineLow, detail := BitVec.ofNat 8 (s.line x).monitor.runCount })) ∧
    ((s.line x).lineState = .fault → (s.line x).monitor.runCount = 0 →
      exec .clearFault s = .next
        (((s.setLine x
            { s.line x with
              lineState := .waking, slotStart := some (s.line x).time, bitsJudged := 0,
              bitsSampled := 0,
              monitor :=
                { (s.line x).monitor with wakePhase := .recovery, recoveryCount := 0 } }).posted
            (.lineController x)
          [lineChangeRecord x .waking .command 0xFF (s.line x).cycleCount]).complete
            { result := .done, detail := 0x00 })))

/-- LINE_RESET: the frame in flight ends CANCELLED, every queued request leaves the queue, the in-use nodes of
the line become UNKNOWN with their counters at 0, the line is OFF with its counters and flags cleared, the
records of the flush and of the change to OFF are held by the command unit until every post then on the path
of the line's controller has been taken, and the tables are kept. That the slot start becomes absent, and
that the posts are counted at the reset, are inferences (assumptions 6 and 8). -/
def Obligations.LineResetCommand : Prop :=
  ∀ (s : State) (x : LineId), s.accepted = some (.lineReset x) →
    ∃ u t, exec .lineReset s = .next t ∧
      ((s.line x).seq.frameState = .idle → u = s) ∧
      (∀ d source kind, s.DescriptorFrame x d source kind →
        State.FrameEnded x d source kind .cancelled [] s u) ∧
      (s.HushFrame x → State.HushEnded x .cancelled s u) ∧
      (u.line x).time = (s.line x).time ∧
      t.line x =
        { (u.line x).wentOff with
          holdFlag := false, cycleCount := 0, queue := [], inFlight := none, seq := .initial } ∧
      (∀ y, y ≠ x → t.line y = u.line y) ∧
      (∀ n, t.node n =
        if (u.node n).config.inUse = true ∧ (u.node n).config.line = x then
          { u.node n with state := .unknown, misses := 0, score := 0 }
        else u.node n) ∧
      (∀ d, t.desc d =
        { u.desc d with adhoc := if d ∈ (u.line x).queue then .none else (u.desc d).adhoc }) ∧
      (let records := (u.line x).queue.map
            (fun d => adhocEndRecord x d (outcomeCode .cancelled) (u.line x).cycleCount)
          ++ (if (s.line x).lineState = .off then []
              else [lineChangeRecord x .off .reset 0xFF 0])
       t.events =
        if records = [] then u.events
        else
          { u.events with
            holds := u.events.holds ++
              [{ line := x, waiting := (u.events.path (.lineController x)).length,
                 records := records }] }) ∧
      t.directory = u.directory ∧ t.slots = u.slots ∧ t.port = u.port ∧
      t.inReset = u.inReset ∧ t.readData = u.readData ∧ t.freeCount = u.freeCount ∧
      t.pending = u.pending ∧
      t.host = { u.host with busy := false, result := .done, detail := 0x00 }

/-! ## Slots and cycles -/

/-- The slot a line is at is its active schedule's first slot plus the line's slot index. A slot start sets
the origin of the base and, where the slot runs in this cycle, does the work of its kind: nothing for GAP, CYCLE_MARK for MARK, the descriptor's frame for REGULAR unless its node is MISSING
outside a probe cycle, the hush frame for HUSH, the ad-hoc queue's service for OPEN. -/
def Obligations.SlotStart : Prop :=
  (∀ (s : State) (x : LineId) (i : Fin 128), s.currentSlot x = some i ↔
    ∃ k, (s.line x).active = some k ∧ i.val = (s.dir k).firstSlot + (s.line x).slotIndex) ∧
  ∀ (s : State) (x : LineId) (t : Nat) (i : Fin 128), s.currentSlot x = some i →
    let e := s.slot i
    let u := s.setLine x
      { s.line x with slotStart := some t, bitsJudged := 0, bitsSampled := 0, hushOk := false }
    let runs := (s.line x).cycleCount.toNat % e.divisor = e.phase
    (¬ runs → s.beginSlot x t = u) ∧
    (runs → e.kind = .gap ∨ e.kind = .empty → s.beginSlot x t = u) ∧
    (runs → e.kind = .mark → s.beginSlot x t =
      u.posted (.lineController x)
        [{ kind := .cycleMark, line := some x, index := BitVec.ofNat 8 i.val,
           detail := indexCode (s.line x).active, stamp := (s.line x).cycleCount }]) ∧
    (runs → e.kind = .regular →
      (∀ n, (s.desc e.descriptor).config.node = some n → (s.node n).state = .missing →
          (s.line x).cycleCount.toNat % (s.node n).config.probeDivisor ≠ 0 → s.beginSlot x t = u) ∧
      ((∀ n, (s.desc e.descriptor).config.node = some n → (s.node n).state = .missing →
          (s.line x).cycleCount.toNat % (s.node n).config.probeDivisor = 0) →
        s.beginSlot x t = u.setLine x
          { u.line x with
            seq := (u.line x).seq.beginDescriptor (.scheduled i) e.descriptor
              (s.desc e.descriptor) })) ∧
    (runs → e.kind = .hush →
      s.beginSlot x t = u.setLine x { u.line x with seq := (u.line x).seq.beginHush }) ∧
    (runs → e.kind = .open → s.beginSlot x t = u.serve x e.length (s.line x).queue)

/-- A frame start loads the sequencer: ALERT with the counts at 0 and no time recorded, the tag and control bytes, and for a stored
push the data and the check as they stand; for a poll and a deferred push the running check covers the
header alone; the hush frame's bytes are fixed. Where the running check stands at frame start is an
inference (assumption 18). -/
def Obligations.FrameStart : Prop :=
  (∀ (q : Sequencer) (source : FrameSource) (d : Fin 64) (v : Descriptor), v.config.length ≤ 12 →
    let q' := q.beginDescriptor source d v
    let header :=
      [tagByte v.config.tag,
       controlByte v.config.direction v.config.length v.frameCounter]
    let message := v.data.toList.take v.config.length
    q'.frameState = .alert ∧ q'.source = some source ∧ q'.descriptor = some d ∧
    q'.kind = some (frameKindOf v.config) ∧ q'.length = some v.config.length ∧
    q'.bitPosition = 0 ∧ q'.charCount = 0 ∧ q'.controlEnd = none ∧ q'.supplyRequest = none ∧
    q'.startEdge = none ∧ q'.lastCharEnd = none ∧ q'.pushStart = none ∧ q'.lookAgain = none ∧
    q'.txBuffer.toList.take 2 = header ∧
    (frameKindOf v.config = .storedPush →
      q'.runningCheck = crcFrom 0xFF (header ++ message) ∧
      q'.txBuffer.toList.take (v.config.length + 3) =
        header ++ message ++ [crcFrom 0xFF (header ++ message)]) ∧
    (frameKindOf v.config ≠ .storedPush → q'.runningCheck = crcFrom 0xFF header)) ∧
  (∀ q : Sequencer,
    q.beginHush.frameState = .alert ∧ q.beginHush.source = some .hush ∧
    q.beginHush.descriptor = none ∧ q.beginHush.kind = some .hush ∧
    q.beginHush.length = some 1 ∧ q.beginHush.bitPosition = 0 ∧ q.beginHush.charCount = 0 ∧
    q.beginHush.controlEnd = none ∧ q.beginHush.supplyRequest = none ∧
    q.beginHush.startEdge = none ∧ q.beginHush.lastCharEnd = none ∧
    q.beginHush.pushStart = none ∧ q.beginHush.lookAgain = none ∧
    q.beginHush.runningCheck = 0xCA ∧ q.beginHush.txBuffer.toList.take 4 = [0x7F, 0x80, 0x00, 0xCA])

/-- The service of an OPEN slot: requests from the head that do not fit leave the queue with ADHOC_END
NO_FIT, in queue order; the first that fits becomes the in-flight request and its frame starts; the requests
behind it stay. -/
def Obligations.OpenSlotService : Prop :=
  ∀ (s : State) (x : LineId) (slotLength : Nat), ∃ (skipped rest : List (Fin 64)),
    (s.line x).queue = skipped ++ rest ∧
    (∀ d ∈ skipped, fits (s.line x).settings (frameKindOf (s.desc d).config)
      (s.desc d).config.length slotLength = false) ∧
    (∀ d ∈ rest.head?, fits (s.line x).settings (frameKindOf (s.desc d).config)
      (s.desc d).config.length slotLength = true) ∧
    let t := s.serve x slotLength (s.line x).queue
    t.line x =
      { s.line x with
        queue := rest.tail,
        inFlight := rest.head?.or (s.line x).inFlight,
        seq := match rest.head? with
          | none => (s.line x).seq
          | some d => (s.line x).seq.beginDescriptor .adHoc d (s.desc d) } ∧
    (∀ y, y ≠ x → t.line y = s.line y) ∧
    (∀ d, t.desc d =
      { s.desc d with
        adhoc := if rest.head? = some d then .inFlight
                 else if d ∈ skipped then .none else (s.desc d).adhoc }) ∧
    t.nodes = s.nodes ∧
    t.events = (s.posted (.lineController x)
      (skipped.map (fun d => adhocEndRecord x d 0x0A (s.line x).cycleCount))).events ∧
    t.host = s.host ∧ t.port = s.port ∧ t.directory = s.directory ∧ t.slots = s.slots ∧
    t.inReset = s.inReset ∧ t.readData = s.readData ∧ t.freeCount = s.freeCount ∧
    t.pending = s.pending

/-- The slot end inside a cycle: a HUSH slot whose frame ended OK puts the line to sleep; a RUNNING line with
hold point SLOT and an active hold request goes HELD at the next position; otherwise the next slot begins,
one slot length after this one began. The line's clock, which never moves back, is the model's (assumption
5); that a line which goes HELD keeps the origin of its base is an inference (assumption 12). -/
def Obligations.SlotEndInsideTheCycle : Prop :=
  ∀ (s : State) (x : LineId) (k : Fin 8) (i : Fin 128),
    (s.line x).lineState = .running ∨ (s.line x).lineState = .draining →
    (s.line x).seq.frameState = .idle → (s.line x).active = some k → s.currentSlot x = some i →
    let ends := (s.line x).slotStart.getD (s.line x).time
      + (s.slot i).length * (s.line x).settings.divisor
    let l := { s.line x with time := max (s.line x).time ends }
    ((s.line x).hushOk = true →
      exec (.slotEnd x) s = .next
        ((s.setLine x { l with lineState := .asleep, slotIndex := 0, hushOk := false }).posted
          (.lineController x)
          [lineChangeRecord x .asleep .hush 0xFF (s.line x).cycleCount])) ∧
    ((s.line x).hushOk = false → (s.line x).slotIndex + 1 < (s.dir k).slotCount →
      ((s.line x).lineState = .running ∧ (s.line x).settings.holdPoint = .slot ∧
          (s.line x).holdRequest = true →
        exec (.slotEnd x) s = .next
          ((s.setLine x { l with lineState := .held, slotIndex := (s.line x).slotIndex + 1 }).posted
            (.lineController x)
            [lineChangeRecord x .held .hold
              (s.slotNumber (some k) ((s.line x).slotIndex + 1)) (s.line x).cycleCount])) ∧
      (¬ ((s.line x).lineState = .running ∧ (s.line x).settings.holdPoint = .slot ∧
          (s.line x).holdRequest = true) →
        exec (.slotEnd x) s = .next
          ((s.setLine x { l with slotIndex := (s.line x).slotIndex + 1 }).beginSlot x ends)))

/-- The end of the last slot of a cycle and the end of recovery advance the cycle count and process the cycle
boundary with all five steps; the end of recovery also returns the wake phase to NONE and the recovery count
to 0, a line that goes RUNNING giving cause RECOVERED. The line's clock is the model's (assumption 5); that the
end of recovery is a step of its own, that the slot start becomes absent in OFF and that it stands in HELD are
inferences (assumptions 9, 6 and 12). -/
def Obligations.CycleBoundaryAtSlotEndAndRecoveryEnd : Prop :=
  (∀ (s : State) (x : LineId) (k : Fin 8) (i : Fin 128),
     (s.line x).lineState = .running ∨ (s.line x).lineState = .draining →
     (s.line x).seq.frameState = .idle → (s.line x).active = some k → s.currentSlot x = some i →
     (s.line x).hushOk = false → (s.dir k).slotCount ≤ (s.line x).slotIndex + 1 →
     let ends := (s.line x).slotStart.getD (s.line x).time
       + (s.slot i).length * (s.line x).settings.divisor
     ∃ t, exec (.slotEnd x) s = .next t ∧
       State.BoundaryEffect x ends true .recovered
         (s.setLine x
           { s.line x with
             time := max (s.line x).time ends, cycleCount := (s.line x).cycleCount + 1 }) t) ∧
  (∀ (s : State) (x : LineId), (s.line x).lineState = .waking → (s.line x).seq.frameState = .idle →
     (s.line x).monitor.wakePhase = .recovery →
     (s.line x).settings.recovery ≤ (s.line x).monitor.recoveryCount →
     let ends := (s.line x).slotStart.getD (s.line x).time
       + (s.line x).bitsJudged * (s.line x).settings.divisor
     ∃ t, exec (.recoveryEnd x) s = .next t ∧
       State.BoundaryEffect x ends true .recovered
         (s.setLine x
           { s.line x with
             time := max (s.line x).time ends, cycleCount := (s.line x).cycleCount + 1,
             monitor := { (s.line x).monitor with wakePhase := .none, recoveryCount := 0 } }) t)

/-- A line's cycle count advances or returns to 0 only where R83 says so: at the slot end and at the end of
recovery it may advance by 1 or become 0, by START, a release and a line reset it may become 0, by a power-on
reset it does, and no other step changes it. -/
def Obligations.CycleCountChangesOnlyWhereStated : Prop :=
  ∀ (c : Instr) (s t : State) (x : LineId), exec c s = .next t →
    (c = .powerOnReset → (t.line x).cycleCount = 0) ∧
    (c = .slotEnd x ∨ c = .recoveryEnd x →
      (t.line x).cycleCount = (s.line x).cycleCount ∨
        (t.line x).cycleCount = (s.line x).cycleCount + 1 ∨ (t.line x).cycleCount = 0) ∧
    (c = .start ∨ c = .lineReset ∨ c = .holdClear ∨ c = .holdPinLevelChange x →
      (t.line x).cycleCount = (s.line x).cycleCount ∨ (t.line x).cycleCount = 0) ∧
    (c ≠ .powerOnReset → c ≠ .slotEnd x → c ≠ .recoveryEnd x → c ≠ .start → c ≠ .lineReset →
      c ≠ .holdClear → c ≠ .holdPinLevelChange x →
      (t.line x).cycleCount = (s.line x).cycleCount)

/-! ## The course of a frame -/

/-- The ends of the alert, the mark and the push space: after A bit times the line is released for the mark,
after M more the header's start bit is driven, and P bit times after the control end the push begins. The
line's clock, which never moves back, is the model's (assumption 5). -/
def Obligations.AlertMarkAndPushSpaceEnd : Prop :=
  ∀ (s : State) (x : LineId),
    let l := s.line x
    let st := l.settings
    let moved (n : Nat) (q : Sequencer) : State :=
      s.setLine x { l with time := max l.time (l.slotStart.getD l.time + n), seq := q }
    (l.seq.frameState = .alert →
      exec (.alertEnd x) s = .next
        (moved (st.alert * st.divisor) { l.seq with frameState := .mark, bitPosition := 0 }) ∧
      ∀ bit, drivenLevel st { l.seq with frameState := .mark } bit = .recessive) ∧
    (l.seq.frameState = .mark →
      exec (.markEnd x) s = .next
        (moved ((st.alert + st.mark) * st.divisor)
          { l.seq with frameState := .header, bitPosition := 0 }) ∧
      drivenLevel st { l.seq with frameState := .header } 0 = .dominant) ∧
    (∀ control, l.seq.frameState = .pushSpace → l.seq.controlEnd = some control →
      exec (.pushSpaceEnd x) s = .next
        (moved ((control + st.pushSpace) * st.divisor)
          { l.seq with
            frameState := .push, bitPosition := 0, charCount := 0,
            pushStart := some ((control + st.pushSpace) * st.divisor) }) ∧
      drivenLevel st { l.seq with frameState := .push } 0 = .dominant)

/-- The end of the control character, H bit times after the frame start: the control end is recorded, the
descriptor's frame counter advances by one from 7 to 0, the state of the frame kind is entered, and a
deferred push sets its supply request and posts SUPPLY_DUE. The line's clock is the model's (assumption 5). -/
def Obligations.ControlEnd : Prop :=
  ∀ (s : State) (x : LineId), (s.line x).seq.frameState = .header →
    let l := s.line x
    let header := l.settings.alert + l.settings.mark + 20
    let clocked : LineController :=
      { l with time := max l.time (l.slotStart.getD l.time + header * l.settings.divisor) }
    let q : Sequencer := { l.seq with bitPosition := 0, controlEnd := some header }
    (∀ d source kind, s.DescriptorFrame x d source kind →
      (kind = .poll → exec (.controlEnd x) s = .next
        ((s.setLine x { clocked with seq := { q with frameState := .replyWait } }).setDesc d
          { s.desc d with frameCounter := (s.desc d).frameCounter + 1 })) ∧
      (kind = .storedPush → exec (.controlEnd x) s = .next
        ((s.setLine x { clocked with seq := { q with frameState := .pushSpace } }).setDesc d
          { s.desc d with frameCounter := (s.desc d).frameCounter + 1 })) ∧
      (kind = .deferredPush → exec (.controlEnd x) s = .next
        (((s.setLine x
            { clocked with
              seq := { q with frameState := .supplyWait, supplyRequest := some d } }).setDesc d
            { s.desc d with frameCounter := (s.desc d).frameCounter + 1 }).posted
          (.lineController x)
          [{ kind := .supplyDue, line := some x, index := BitVec.ofNat 8 d.val,
             detail := match source with
               | .scheduled i => BitVec.ofNat 8 i.val
               | _ => 0xFF,
             stamp := l.cycleCount }]))) ∧
    (s.HushFrame x → exec (.controlEnd x) s = .next
      (s.setLine x { clocked with seq := { q with frameState := .pushSpace } }))

/-- Readback of a sent bit time at its third sample: a majority level, that of at least two of the three
samples, equal to the driven one lets the frame go on, any other ends it READBACK at that moment. The driven levels are the alert dominant, the mark recessive,
the header's two characters and the characters of the data part with recessive gaps, a character beginning
with a dominant start bit and ending with a recessive stop bit. Nothing is compared in IDLE and the waits, nor
beyond the bit times that a state sends: such a readback changes nothing (assumption 3). The line's clock is
the model's (assumption 5). -/
def Obligations.ReadbackOfSentBits : Prop :=
  (∀ (samples : Samples) (level : Level), majority samples = level ↔
    (samples.first = level ∧ samples.second = level) ∨
      (samples.first = level ∧ samples.third = level) ∨
      (samples.second = level ∧ samples.third = level)) ∧
  (∀ (s : State) (x : LineId) (bit : Nat) (samples : Samples),
    bit < sentBits (s.line x).settings (s.line x).seq →
    let st := (s.line x).settings
    let driven := drivenLevel st (s.line x).seq bit
    let at' := stateBegin st (s.line x).seq + bit * st.divisor + 9 * st.divisor / 16
    ∃ t, exec (.readback x bit samples) s = .next t ∧
      (t.line x).time = max (s.line x).time ((s.line x).slotStart.getD (s.line x).time + at') ∧
      (majority samples = driven →
        t = s.setLine x (t.line x) ∧ (s.line x).ClockedTo at' (t.line x)) ∧
      (majority samples ≠ driven →
        (∀ d source kind, s.DescriptorFrame x d source kind →
          State.FrameEnded x d source kind .readback [] s t) ∧
        (s.HushFrame x → State.HushEnded x .readback s t))) ∧
  (∀ (s : State) (x : LineId) (bit : Nat) (samples : Samples),
    sentBits (s.line x).settings (s.line x).seq ≤ bit →
      exec (.readback x bit samples) s = .next s) ∧
  (∀ byte : Byte, characterBit byte 0 = .dominant ∧ characterBit byte 9 = .recessive) ∧
  (∀ (st : LineSettings) (q : Sequencer) (bit : Nat),
    (q.frameState ∈ [FrameState.idle, .replyWait, .reply, .supplyWait, .pushSpace] →
      sentBits st q = 0) ∧
    (q.frameState = .alert → sentBits st q = st.alert ∧ drivenLevel st q bit = .dominant) ∧
    (q.frameState = .mark → sentBits st q = st.mark ∧ drivenLevel st q bit = .recessive) ∧
    (q.frameState = .header → sentBits st q = 20 ∧ ∀ c k, k < 10 →
      drivenLevel st q (10 * c + k) = characterBit (byteAt q.txBuffer c) k) ∧
    (∀ length, q.frameState = .push → q.length = some length →
      sentBits st q = (length + 1) * 10 + length * st.pushGap ∧
      ∀ c k, (k < 10 →
          drivenLevel st q ((10 + st.pushGap) * c + k) = characterBit (byteAt q.txBuffer (2 + c)) k) ∧
        (10 ≤ k → k < 10 + st.pushGap →
          drivenLevel st q ((10 + st.pushGap) * c + k) = .recessive)))

/-- A start edge in REPLY_WAIT or between reply characters: a dominant start bit begins a character, whose time
runs from the edge, counted at the control end where it came earlier; a recessive one is disregarded, the receiver
looking again once the wire is recessive and taking no edge before that, or ends the frame NO_REPLY or
SHORT_REPLY when its third sample does not come before the deadline. An edge before the window, after the
deadline, within a character or behind the check character changes nothing (assumption 3). The instants at which an edge is taken
and from which it is timed are read as assumptions 14 and 15 say; the line's clock is the model's (assumption
5). -/
def Obligations.ReplyStartBit : Prop :=
  ∀ (s : State) (x : LineId) (edge : Nat) (samples : Samples) (d : Fin 64) (source : FrameSource)
      (kind : FrameKind), s.DescriptorFrame x d source kind →
    let l := s.line x
    let st := l.settings
    let judged (edge deadline : Nat) (late : FrameOutcome) (t : State) : Prop :=
      let at' := edge + 9 * st.divisor / 16
      (t.line x).time = max l.time (l.slotStart.getD l.time + at') ∧
      (majority samples = .dominant →
        t = s.setLine x
          { l with
            time := max l.time (l.slotStart.getD l.time + at'),
            seq :=
              { l.seq with
                frameState := .reply, startEdge := some edge, bitPosition := 0,
                lookAgain := none } }) ∧
      (majority samples = .recessive → at' < deadline →
        t = s.setLine x
          { l with
            time := max l.time (l.slotStart.getD l.time + at'),
            seq :=
              { l.seq.atTime st (t.line x).elapsed with
                lookAgain := some (if samples.third = .recessive then at' + 1 else at' + 2) } }) ∧
      (majority samples = .recessive → deadline ≤ at' →
        State.FrameEnded x d source kind late [] s t)
    (∀ control, l.seq.frameState = .replyWait → l.seq.controlEnd = some control →
      (l.seq.lookAgain = none → (control - 1) * st.divisor + 9 * st.divisor / 16 < edge) →
      (∀ again, l.seq.lookAgain = some again → again ≤ edge) →
      edge ≤ (control + st.replySpace) * st.divisor →
      ∃ t, exec (.replyStartBit x edge samples) s = .next t ∧
        judged (max edge (control * st.divisor)) ((control + st.replySpace) * st.divisor)
          .noReply t) ∧
    (∀ last length, l.seq.frameState = .reply → l.seq.startEdge = none →
      l.seq.lastCharEnd = some last → l.seq.length = some length → l.seq.charCount ≤ length →
      (l.seq.lookAgain = none → last - st.divisor + 8 * st.divisor / 16 ≤ edge) →
      (∀ again, l.seq.lookAgain = some again → again ≤ edge) →
      edge ≤ last + st.replyGap * st.divisor →
      ∃ t, exec (.replyStartBit x edge samples) s = .next t ∧
        judged edge (last + st.replyGap * st.divisor) .shortReply t) ∧
    (∀ again, l.seq.lookAgain = some again → edge < again →
      exec (.replyStartBit x edge samples) s = .next s) ∧
    (∀ control, l.seq.frameState = .replyWait → l.seq.controlEnd = some control →
      (l.seq.lookAgain = none ∧ edge ≤ (control - 1) * st.divisor + 9 * st.divisor / 16) ∨
        (control + st.replySpace) * st.divisor < edge →
      exec (.replyStartBit x edge samples) s = .next s) ∧
    (∀ last, l.seq.frameState = .reply → l.seq.lastCharEnd = some last →
      (l.seq.lookAgain = none ∧ edge < last - st.divisor + 8 * st.divisor / 16) ∨
        last + st.replyGap * st.divisor < edge →
      exec (.replyStartBit x edge samples) s = .next s) ∧
    (∀ length, l.seq.frameState = .reply → l.seq.length = some length →
      l.seq.startEdge ≠ none ∨ length < l.seq.charCount →
      exec (.replyStartBit x edge samples) s = .next s)

/-- A reply character at the third sample of its stop bit: a dominant stop bit ends the frame FRAMING; a
recessive one advances the character count, stores the byte, and advances the running check over it unless
the byte is the received check. The line's clock is the model's (assumption 5), and so is what the bit
position shows behind the character (assumption 24). -/
def Obligations.ReplyCharacter : Prop :=
  ∀ (s : State) (x : LineId) (first second third : BitVec 9) (edge length : Nat) (d : Fin 64)
      (source : FrameSource) (kind : FrameKind), s.DescriptorFrame x d source kind →
    (s.line x).seq.frameState = .reply → (s.line x).seq.startEdge = some edge →
    (s.line x).seq.length = some length →
    let l := s.line x
    let bits := (first &&& second) ||| (first &&& third) ||| (second &&& third)
    let byte : Byte := bits.setWidth 8
    let at' := edge + 9 * l.settings.divisor + 9 * l.settings.divisor / 16
    ∃ t, exec (.replyCharacter x first second third) s = .next t ∧
      (t.line x).time = max l.time (l.slotStart.getD l.time + at') ∧
      (bits.getLsbD 8 = false → State.FrameEnded x d source kind .framing [] s t) ∧
      (bits.getLsbD 8 = true → t = s.setLine x
        { l with
          time := (t.line x).time,
          seq :=
            { l.seq with
              bitPosition := ((t.line x).elapsed - edge) / l.settings.divisor % 10,
              charCount := l.seq.charCount + 1,
              rxBuffer := l.seq.rxBuffer.setIfInBounds l.seq.charCount byte,
              runningCheck :=
                if l.seq.charCount < length then crcByte l.seq.runningCheck byte
                else l.seq.runningCheck,
              startEdge := none, lastCharEnd := some (edge + 10 * l.settings.divisor),
              lookAgain := none } })

/-- The end of the reply space without a first character ends the frame NO_REPLY, S bit times after the control
end; the end of a reply gap without a next character ends it SHORT_REPLY, I bit times after the last
character's nominal end. The line's clock is the model's (assumption 5). -/
def Obligations.ReplyTimeouts : Prop :=
  ∀ (s : State) (x : LineId) (d : Fin 64) (source : FrameSource) (kind : FrameKind),
    s.DescriptorFrame x d source kind →
    let l := s.line x
    (∀ control, l.seq.frameState = .replyWait → l.seq.controlEnd = some control →
      ∃ t, exec (.replySpaceEnd x) s = .next t ∧ State.FrameEnded x d source kind .noReply [] s t ∧
        (t.line x).time = max l.time
          (l.slotStart.getD l.time + (control + l.settings.replySpace) * l.settings.divisor)) ∧
    (∀ last length, l.seq.frameState = .reply → l.seq.startEdge = none →
      l.seq.lastCharEnd = some last → l.seq.length = some length → l.seq.charCount ≤ length →
      ∃ t, exec (.replyGapEnd x) s = .next t ∧
        State.FrameEnded x d source kind .shortReply [] s t ∧
        (t.line x).time = max l.time
          (l.slotStart.getD l.time + (last + l.settings.replyGap * l.settings.divisor)))

/-- At the nominal end of the check character the received check is compared with the running check: equal ends
the frame OK with the L received bytes as reply, unequal ends it CRC_FAIL with none. The line's clock is the
model's (assumption 5). -/
def Obligations.CheckCompare : Prop :=
  ∀ (s : State) (x : LineId) (d : Fin 64) (source : FrameSource) (kind : FrameKind)
      (last length : Nat), s.DescriptorFrame x d source kind →
    (s.line x).seq.frameState = .reply → (s.line x).seq.startEdge = none →
    (s.line x).seq.lastCharEnd = some last → (s.line x).seq.length = some length →
    (s.line x).seq.charCount = length + 1 →
    let l := s.line x
    ∃ t, exec (.checkCompare x) s = .next t ∧
      (t.line x).time = max l.time (l.slotStart.getD l.time + last) ∧
      (byteAt l.seq.rxBuffer length = l.seq.runningCheck →
        State.FrameEnded x d source kind .ok (l.seq.rxBuffer.toList.take length) s t) ∧
      (byteAt l.seq.rxBuffer length ≠ l.seq.runningCheck →
        State.FrameEnded x d source kind .crcFail [] s t)

/-- SUPPLY is answered by the first row that applies. For the outstanding request it copies the first L bytes of
the descriptor's data behind the header, forms the check over them, sets the request to none and goes on to
PUSH where the push space has passed and to PUSH_SPACE otherwise; every other answer changes nothing. That
the character count returns to 0 is an inference (assumption 18), and that the bit position runs on into
PUSH_SPACE is the model's choice (assumption 21). -/
def Obligations.SupplyCommand : Prop :=
  ∀ (s : State) (x : LineId) (d : Fin 64), s.accepted = some (.supply x d) →
    let l := s.line x
    (∀ control length, l.seq.frameState = .supplyWait → l.seq.supplyRequest = some d →
      l.seq.controlEnd = some control → l.seq.length = some length → length ≤ 12 →
      let message := (s.desc d).data.toList.take length
      let check := crcFrom l.seq.runningCheck message
      let passed := (control + l.settings.pushSpace) * l.settings.divisor ≤ l.elapsed
      ∃ q, exec .supply s = .next
          ((s.setLine x { l with seq := q }).complete { result := .done, detail := 0x00 }) ∧
        q.txBuffer.toList.take (length + 3) = l.seq.txBuffer.toList.take 2 ++ message ++ [check] ∧
        q.runningCheck = check ∧ q.supplyRequest = none ∧
        q.frameState = (if passed then .push else .pushSpace) ∧
        q.charCount = 0 ∧ (passed → q.pushStart = some l.elapsed ∧ q.bitPosition = 0) ∧
        (¬ passed → q.pushStart = l.seq.pushStart ∧ q.bitPosition = l.seq.bitPosition) ∧
        q.startEdge = l.seq.startEdge ∧ q.lastCharEnd = l.seq.lastCharEnd ∧
        q.lookAgain = l.seq.lookAgain ∧
        q.source = l.seq.source ∧ q.descriptor = l.seq.descriptor ∧ q.kind = l.seq.kind ∧
        q.length = l.seq.length ∧ q.controlEnd = l.seq.controlEnd ∧ q.rxBuffer = l.seq.rxBuffer) ∧
    (∀ e, l.seq.frameState = .supplyWait → l.seq.supplyRequest = some e → e ≠ d →
      exec .supply s = .next
        (s.complete { result := .notWaiting, detail := BitVec.ofNat 8 e.val })) ∧
    (l.seq.frameState ≠ .supplyWait ∨ l.seq.supplyRequest = none →
      ((s.desc d).config.inUse = true ∧ (s.desc d).config.line = x ∧
          (s.desc d).lastOutcome = some .lateData →
        exec .supply s = .next
          (s.complete { result := .tooLate, detail := (s.desc d).stamp.setWidth 8 })) ∧
      (¬ ((s.desc d).config.inUse = true ∧ (s.desc d).config.line = x ∧
          (s.desc d).lastOutcome = some .lateData) →
        exec .supply s = .next (s.complete { result := .notWaiting, detail := 0xFF })))

/-- The end of the supply window with the request outstanding ends the frame LATE_DATA, D bit times after the
control end; the end of a push's check character ends it OK, (L + 1) × 10 + L × J bit times after its first
character began; a hush frame that goes out whole ends OK, its report reaching the runner alone. The line's
clock is the model's (assumption 5). -/
def Obligations.SupplyWindowAndPushEnd : Prop :=
  (∀ (s : State) (x : LineId) (d : Fin 64) (source : FrameSource) (kind : FrameKind),
     s.DescriptorFrame x d source kind →
     let l := s.line x
     (∀ control, l.seq.frameState = .supplyWait → l.seq.controlEnd = some control →
       ∃ t, exec (.supplyWindowEnd x) s = .next t ∧
         State.FrameEnded x d source kind .lateData [] s t ∧
         (t.line x).time = max l.time
           (l.slotStart.getD l.time + (control + l.settings.supplyWindow) * l.settings.divisor)) ∧
     (∀ start length, l.seq.frameState = .push → l.seq.pushStart = some start →
       l.seq.length = some length →
       ∃ t, exec (.pushEnd x) s = .next t ∧ State.FrameEnded x d source kind .ok [] s t ∧
         (t.line x).time = max l.time
           (l.slotStart.getD l.time
             + (start + ((length + 1) * 10 + length * l.settings.pushGap) * l.settings.divisor)))) ∧
  (∀ (s : State) (x : LineId) (start : Nat), s.HushFrame x → (s.line x).seq.frameState = .push →
     (s.line x).seq.pushStart = some start → (s.line x).seq.length = some 1 →
     let l := s.line x
     ∃ t, exec (.pushEnd x) s = .next t ∧ State.HushEnded x .ok s t ∧
       (t.line x).time = max l.time
         (l.slotStart.getD l.time + (start + (20 + l.settings.pushGap) * l.settings.divisor)))

/-- The counters of a node after a counted outcome; then its state, by the first of the four steps of R140 that
applies. The outcomes that tell nothing of the station change nothing, and no outcome changes the
configuration. -/
def Obligations.NodeAfterAReport : Prop :=
  (∀ n : Node, n.misses ≤ 255 → n.score ≤ 31 →
     ((n.report .ok).misses = 0 ∧
       (n.report .ok).score = if n.score = 0 then 0 else n.score - 1) ∧
     ((n.report .noReply).misses = (if n.misses = 255 then 255 else n.misses + 1) ∧
       (n.report .noReply).score = n.score) ∧
     ∀ o, o = .shortReply ∨ o = .crcFail ∨ o = .framing →
       (n.report o).misses = 0 ∧
       (n.report o).score = if 31 < n.score + 2 then 31 else n.score + 2) ∧
  (∀ (n : Node) (o : FrameOutcome),
     (n.report o).config = n.config ∧
     (o = .readback ∨ o = .lineStuck ∨ o = .cancelled → n.report o = n) ∧
     (o = .ok ∨ o = .noReply ∨ o = .shortReply ∨ o = .crcFail ∨ o = .framing →
       let m := n.report o
       let missed := n.config.missThreshold ≤ m.misses
       let garbled :=
         n.config.errorThreshold ≤ m.score ∨ (n.state = .erratic ∧ 0 < m.score)
       (missed → m.state = .missing) ∧
       (¬ missed → garbled → m.state = .erratic) ∧
       (¬ missed → ¬ garbled → o = .noReply → m.state = n.state) ∧
       (¬ missed → ¬ garbled → o ≠ .noReply → m.state = .present)))

/-! ## The line monitor -/

/-- A judged bit time, at its third sample: the run count and the stuck report by its level, the qualify count
in ASLEEP, the recovery count in the RECOVERY phase, and nothing while the monitor is inactive. Which bit
time is next, and the clock, are the model's (assumption 5); what becomes due is a step of its own
(assumption 9). -/
def Obligations.BitTimeJudged : Prop :=
  ∀ (s : State) (x : LineId) (samples : Samples),
    let l := s.line x
    let m := l.monitor
    let bit := max l.bitsJudged (l.elapsed / l.settings.divisor)
    (m.active = false → exec (.bitTimeJudged x samples) s = .next s) ∧
    (m.active = true → ∃ t, exec (.bitTimeJudged x samples) s = .next t ∧
      t = s.setLine x (t.line x) ∧
      t.line x =
        { l with
          time := max l.time (l.slotStart.getD l.time
            + (bit * l.settings.divisor + 9 * l.settings.divisor / 16)),
          bitsJudged := bit + 1,
          seq := l.seq.atTime l.settings (t.line x).elapsed,
          monitor := (t.line x).monitor } ∧
      (t.line x).monitor.pulseCount =
        (if m.wakePhase = .pulse then
          l.settings.wakePulse - (t.line x).elapsed / l.settings.divisor
        else m.pulseCount) ∧
      (t.line x).monitor.active = true ∧ (t.line x).monitor.wakePhase = m.wakePhase ∧
      (majority samples = .dominant →
        (t.line x).monitor.runCount = min 255 (m.runCount + 1) ∧
        (t.line x).monitor.stuckReported = m.stuckReported) ∧
      (majority samples = .recessive →
        (t.line x).monitor.runCount = 0 ∧ (t.line x).monitor.stuckReported = false) ∧
      (l.lineState = .asleep →
        (t.line x).monitor.qualifyCount =
          match majority samples, m.qualifyCount with
          | .dominant, none => some (l.settings.wakeQualify - 1)
          | .dominant, some n => some (n - 1)
          | .recessive, _ => none) ∧
      (l.lineState ≠ .asleep → (t.line x).monitor.qualifyCount = m.qualifyCount) ∧
      (l.lineState = .waking → m.wakePhase = .recovery →
        (t.line x).monitor.recoveryCount =
          if majority samples = .dominant then 0 else min l.settings.recovery (m.recoveryCount + 1)) ∧
      (¬ (l.lineState = .waking ∧ m.wakePhase = .recovery) →
        (t.line x).monitor.recoveryCount = m.recoveryCount))

/-- A dominant run that has reached the stuck limit is reported once: in FAULT without effect, elsewhere a frame
in flight ends LINE_STUCK and the line then enters FAULT with slot index 0 and no wake phase or
qualification, keeping its schedules, stop request, hold flag, queue and cycle count. That the pulse count
becomes 0 is an inference (assumption 11). -/
def Obligations.StuckLineReport : Prop :=
  ∀ (s : State) (x : LineId), (s.line x).monitor.active = true →
    (s.line x).monitor.stuckReported = false →
    (s.line x).settings.stuckLimit ≤ (s.line x).monitor.runCount →
    let s' := s.setLine x
      { s.line x with monitor := { (s.line x).monitor with stuckReported := true } }
    ((s.line x).lineState = .fault → exec (.stuckLineReport x) s = .next s') ∧
    ((s.line x).lineState ≠ .fault → ∃ u t, exec (.stuckLineReport x) s = .next t ∧
      ((s.line x).seq.frameState = .idle → u = s') ∧
      (∀ d source kind, s.DescriptorFrame x d source kind →
        State.FrameEnded x d source kind .lineStuck [] s' u) ∧
      (s.HushFrame x → State.HushEnded x .lineStuck s' u) ∧
      (u.line x).time = (s.line x).time ∧
      t = (u.setLine x
          { u.line x with
            lineState := .fault, slotIndex := 0, hushOk := false,
            monitor :=
              { (u.line x).monitor with
                wakePhase := .none, qualifyCount := none, pulseCount := 0 } }).posted
        (.lineController x) [lineChangeRecord x .fault .stuck 0xFF (u.line x).cycleCount])

/-- A qualified remote wake takes the sleeping line to WAKING in RECOVERY without a pulse, the pin staying
released; the end of a wake pulse, W bit times after the WAKE, releases the line and begins recovery. That the wake is a step of its own
after its sample is an inference (assumption 9); the clock is the model's (assumption 5). -/
def Obligations.RemoteWakeAndPulseEnd : Prop :=
  (∀ (s : State) (x : LineId), (s.line x).lineState = .asleep →
    (s.line x).monitor.qualifyCount = some 0 → ∃ t, exec (.remoteWake x) s = .next t ∧
      ((s.line x).seq.frameState = .idle → (t.line x).pin = .recessive) ∧
      t = (s.setLine x
        { s.line x with
          lineState := .waking,
          monitor :=
            { (s.line x).monitor with
              qualifyCount := none, wakePhase := .recovery, recoveryCount := 0 } }).posted
        (.lineController x)
        [lineChangeRecord x .waking .remote 0xFF (s.line x).cycleCount]) ∧
  (∀ (s : State) (x : LineId), (s.line x).lineState = .waking →
    (s.line x).monitor.wakePhase = .pulse → (s.line x).seq.frameState = .idle →
    ∃ t, exec (.wakePulseEnd x) s = .next t ∧ (t.line x).pin = .recessive ∧
      t = s.setLine x
        { s.line x with
          time := max (s.line x).time ((s.line x).slotStart.getD (s.line x).time
            + (s.line x).settings.wakePulse * (s.line x).settings.divisor),
          monitor :=
            { (s.line x).monitor with
              wakePhase := .recovery, pulseCount := 0, recoveryCount := 0 } })

/-- The HOLD pin is sampled in the middle of each bit time in every state but OFF; the pin level follows two
equal consecutive samples, and nothing else changes unless the change releases a HELD line. The rounding of
the middle is presumed (assumption 13), which bit time is next is the model's (assumption 5), and a level
change that is not due changes nothing (assumptions 3 and 9). -/
def Obligations.HoldPin : Prop :=
  (∀ (s : State) (x : LineId) (reading : PinLevel), (s.line x).lineState ≠ .off →
    let l := s.line x
    let bit := max l.bitsSampled (l.elapsed / l.settings.divisor)
    ∃ t, exec (.holdPinSample x reading) s = .next t ∧ t = s.setLine x (t.line x) ∧
      t.line x =
        { l with
          time := max l.time (l.slotStart.getD l.time
            + (bit * l.settings.divisor + 8 * l.settings.divisor / 16)),
          lastSample := reading, previousSample := l.lastSample, bitsSampled := bit + 1,
          seq := l.seq.atTime l.settings (t.line x).elapsed,
          monitor :=
            { l.monitor with
              pulseCount :=
                if l.monitor.wakePhase = .pulse then
                  l.settings.wakePulse - (t.line x).elapsed / l.settings.divisor
                else l.monitor.pulseCount } }) ∧
  (∀ (s : State) (x : LineId), (s.line x).lineState ≠ .off →
    ((s.line x).lastSample = .low → (s.line x).previousSample = .low →
      exec (.holdPinLevelChange x) s = .next
        (s.setLine x { s.line x with pinAsserted := true })) ∧
    ((s.line x).lastSample = .high → (s.line x).previousSample = .high →
      (s.line x).lineState ≠ .held ∨ (s.line x).holdFlag = true ∨
        (s.line x).settings.holdPinEnable = false ∨ (s.line x).pinAsserted = false →
      exec (.holdPinLevelChange x) s = .next
        (s.setLine x { s.line x with pinAsserted := false })) ∧
    ((s.line x).lastSample ≠ (s.line x).previousSample →
      exec (.holdPinLevelChange x) s = .next s))

/-! ## Ad-hoc requests -/

/-- ENQUEUE, taken in every line state: the first check that fails refuses it and changes nothing; a command
that passes appends the descriptor, which is QUEUED and locked from then on, and answers with the number of
requests. -/
def Obligations.EnqueueCommand : Prop :=
  ∀ (s : State) (x : LineId) (d : Fin 64), s.accepted = some (.enqueue x d) →
    let l := s.line x
    let used := (s.desc d).config.inUse = true
    let here := (s.desc d).config.line = x
    (¬ used → exec .enqueue s = .next (s.complete { result := .badReference, detail := 0x00 })) ∧
    (used → ¬ here →
      exec .enqueue s = .next (s.complete { result := .badReference, detail := 0x01 })) ∧
    (used → here → d ∈ l.queue →
      exec .enqueue s = .next (s.complete { result := .alreadyQueued, detail := 0x01 })) ∧
    (used → here → d ∉ l.queue → l.inFlight = some d →
      exec .enqueue s = .next (s.complete { result := .alreadyQueued, detail := 0x02 })) ∧
    (used → here → d ∉ l.queue → l.inFlight ≠ some d → 8 ≤ l.queue.length →
      exec .enqueue s = .next (s.complete { result := .queueFull, detail := 0x08 })) ∧
    (used → here → d ∉ l.queue → l.inFlight ≠ some d → l.queue.length < 8 →
      ∃ t, exec .enqueue s = .next t ∧
        t = ((s.setLine x { l with queue := l.queue ++ [d] }).setDesc d
              { s.desc d with adhoc := .queued }).complete
                { result := .done, detail := BitVec.ofNat 8 (l.queue.length + 1) } ∧
        t.descriptorLocked d = true)

/-- CANCEL, taken in every line state: a queued descriptor leaves the queue, the requests behind it keeping
their order, and its lock stands only where a REGULAR slot in a closure names it; otherwise NOT_QUEUED and
nothing changes. -/
def Obligations.CancelCommand : Prop :=
  ∀ (s : State) (x : LineId) (d : Fin 64), s.accepted = some (.cancel x d) →
    let l := s.line x
    (∀ ahead behind, l.queue = ahead ++ d :: behind → d ∉ ahead →
      ∃ t, exec .cancel s = .next t ∧
        t = ((s.setLine x { l with queue := ahead ++ behind }).setDesc d
              { s.desc d with adhoc := .none }).complete
                { result := .done, detail := BitVec.ofNat 8 (ahead.length + behind.length) } ∧
        t.descriptorLocked d = t.namedInClosure d) ∧
    (d ∉ l.queue → l.inFlight = some d →
      exec .cancel s = .next (s.complete { result := .notQueued, detail := 0x02 })) ∧
    (d ∉ l.queue → l.inFlight ≠ some d →
      exec .cancel s = .next (s.complete { result := .notQueued, detail := 0x00 }))

/-! ## The table port -/

/-- An open copies the entry's window into the buffer with 00h behind it, sets table, index, open and pointer
0, and answers with the window size; OPEN_TAKE of a descriptor also clears unread and overwritten in the same
step, the copy showing them as they stood, and on every other table does what OPEN_PEEK does. Each window
holds its fields at the positions and with the codes of the layouts, numbers of two bytes low byte first and
FFh for NONE. -/
def Obligations.OpenCommands : Prop :=
  (∀ s : State,
    let byte (n : Nat) : Byte := BitVec.ofNat 8 n
    let yes (b : Bool) : Byte := if b then 0x01 else 0x00
    let orNone (i : Option Nat) : Byte := match i with
      | some n => byte n
      | none => 0xFF
    let onLine (x : LineId) : Byte := if x = .a then 0x00 else 0x01
    (∀ d : Fin 64,
      let v := s.desc d
      s.window .descriptor d.val =
        [ yes v.config.inUse, onLine v.config.line, byte v.config.tag.toNat,
          if v.config.direction = .push then 0x01 else 0x00, byte v.config.length,
          if v.config.supply = .deferred then 0x01 else 0x00,
          orNone (v.config.node.map Fin.val),
          match v.config.notify with
          | .none => 0x00
          | .fail => 0x01
          | .all => 0x02 ] ++
        v.data.toList ++
        [ match v.lastOutcome with
          | none => 0x00
          | some o => outcomeCode o,
          byte v.stamp.toNat, byte (v.stamp.toNat / 256), byte v.frameCounter.toNat,
          byte (v.unread.toNat + 2 * v.overwritten.toNat + 4 * v.suspect.toNat),
          match v.adhoc with
          | .none => 0x00
          | .queued => 0x01
          | .inFlight => 0x02 ]) ∧
    (∀ k : Fin 8,
      let e := s.dir k
      s.window .directory k.val =
        [yes e.inUse, byte e.firstSlot, byte e.slotCount, orNone (e.followOn.map Fin.val)]) ∧
    (∀ i : Fin 128,
      let e := s.slot i
      s.window .slot i.val =
        [ match e.kind with
          | .empty => 0x00
          | .regular => 0x01
          | .gap => 0x02
          | .mark => 0x03
          | .open => 0x04
          | .hush => 0x05,
          byte e.length, byte (e.length / 256), byte e.divisor, byte e.phase,
          byte e.descriptor.val ]) ∧
    (∀ n : Fin 32,
      let r := s.node n
      s.window .node n.val =
        [ yes r.config.inUse, onLine r.config.line, byte r.config.missThreshold,
          byte r.config.errorThreshold, byte r.config.probeDivisor, yes r.config.notify,
          byte (nodeStateCode r.state), byte r.misses, byte r.score ]) ∧
    (∀ x,
      let l := s.line x
      let st := l.settings
      let elapsed := match l.slotStart with
        | some origin => l.time - origin
        | none => 0
      let shown := if l.lineState = .off then 0 else min 65535 (elapsed / st.divisor)
      s.window .line (lineCode x).toNat =
        [ byte st.divisor, byte (st.divisor / 256), byte st.alert, byte st.mark,
          byte st.replySpace, byte st.replyGap, byte st.pushSpace, byte st.pushGap,
          byte st.supplyWindow, byte st.stuckLimit, byte st.wakePulse, byte st.wakeQualify,
          byte st.recovery, if st.holdPoint = .cycle then 0x01 else 0x00, yes st.holdPinEnable ] ++
        [ 0x00, byte (lineStateCode l.lineState), byte (frameStateCode l.seq.frameState),
          orNone (l.active.map Fin.val), orNone (l.pending.map Fin.val), byte l.slotIndex,
          byte l.cycleCount.toNat, byte (l.cycleCount.toNat / 256),
          byte (l.stopRequest.toNat + 2 * l.holdFlag.toNat + 4 * l.pinAsserted.toNat
            + 8 * l.holdRequest.toNat),
          match l.monitor.wakePhase with
          | .none => 0x00
          | .pulse => 0x01
          | .recovery => 0x02,
          byte l.monitor.runCount, byte shown, byte (shown / 256) ]) ∧
    (∀ x, (s.line x).queue.length ≤ 8 →
      s.window .adhoc (lineCode x).toNat =
        [byte (s.line x).queue.length] ++ (s.line x).queue.map (fun d => byte d.val) ++
        List.replicate (8 - (s.line x).queue.length) 0xFF ++
        [orNone ((s.line x).inFlight.map Fin.val)])) ∧
  ∀ (s : State) (table : TableId) (index : Nat) (size : Nat),
    (table, size) ∈ [(TableId.descriptor, 26), (.slot, 6), (.directory, 4), (.node, 9), (.line, 28),
      (.adhoc, 10)] →
    let opened (t : State) : Prop :=
      t.port.isOpen = true ∧ t.port.table = table ∧ t.port.index = BitVec.ofNat 8 index ∧
      t.port.pointer = 0 ∧ (s.window table index).length = size ∧
      t.port.buffer.toList = s.window table index ++ List.replicate (32 - size) 0x00 ∧
      t.host = { s.host with busy := false, result := .done, detail := BitVec.ofNat 8 size }
    ((s.line .a).queue.length ≤ 8 → (s.line .b).queue.length ≤ 8 →
      s.accepted = some (.openPeek table index) →
      ∃ t, exec .openPeek s = .next t ∧ opened t ∧ t = { s with port := t.port, host := t.host }) ∧
    ((s.line .a).queue.length ≤ 8 → (s.line .b).queue.length ≤ 8 →
      s.accepted = some (.openTake table index) →
      ∃ t, exec .openTake s = .next t ∧ opened t ∧
        (table ≠ .descriptor → t = { s with port := t.port, host := t.host }) ∧
        (∀ d : Fin 64, table = .descriptor → index = d.val →
          t = { s.setDesc d { s.desc d with unread := false, overwritten := false } with
                port := t.port, host := t.host }))

/-- COMMIT is refused WRONG_STATE while the port is closed or its table is ADHOC; whatever its answer, it
leaves the port as it is, and so does every ERASE. -/
def Obligations.CommitAndThePort : Prop :=
  (∀ s : State, s.accepted = some .commit → s.port.isOpen = false ∨ s.port.table = .adhoc →
    exec .commit s = .next (s.complete { result := .wrongState, detail := 0x00 })) ∧
  (∀ s : State, ∃ t, exec .commit s = .next t ∧ t.port = s.port) ∧
  (∀ s : State, ∃ t, exec .erase s = .next t ∧ t.port = s.port)

/-- COMMIT of a descriptor: range, node reference, tag and lock are checked in this order and the first that
fails refuses it with nothing written; a commit that passes writes the configuration and, for a PUSH, the
data, and no status field. The range check passes exactly where every field of the buffer does, and fails
with the offset of the first field that does not; the lock refuses with the offset of the first configuration
field in which the buffer differs; a buffer that passes gives each field the value of its
bytes. A descriptor is locked while a REGULAR slot of a schedule in the locked closure names it, or while its
ad-hoc state is QUEUED or IN_FLIGHT. -/
def Obligations.CommitOfADescriptor : Prop :=
  (∀ (s : State) (d : Fin 64), s.accepted = some .commit → s.port.isOpen = true →
     s.port.table = .descriptor → s.port.index = BitVec.ofNat 8 d.val →
     let w := s.port.buffer
     let c := descriptorFields w
     let refused (r : Result) (detail : Byte) : Prop :=
       exec .commit s = .next (s.complete { result := r, detail := detail })
     let nodeOk := ∀ n, c.node = some n →
       (s.node n).config.inUse = true ∧ (s.node n).config.line = c.line
     let clash (e : Fin 64) := e ≠ d ∧ (s.desc e).config.inUse = true ∧
       (s.desc e).config.line = c.line ∧ (s.desc e).config.tag = c.tag
     (∀ offset, descriptorRange w = some offset → refused .range offset) ∧
     (descriptorRange w = none → ¬ nodeOk → ∀ n, c.node = some n →
       refused .badReference (BitVec.ofNat 8 n.val)) ∧
     (descriptorRange w = none → nodeOk → ∀ e, clash e → (∀ e', e' < e → ¬ clash e') →
       refused .duplicateTag (BitVec.ofNat 8 e.val)) ∧
     (descriptorRange w = none → nodeOk → (∀ e, ¬ clash e) → s.descriptorLocked d = true →
       ∀ offset, descriptorDifference (s.desc d).config c = some offset → refused .inUse offset) ∧
     (descriptorRange w = none → nodeOk → (∀ e, ¬ clash e) →
       s.descriptorLocked d = false ∨ (s.desc d).config = c →
       exec .commit s = .next
         ((s.setDesc d
           { s.desc d with
             config := c,
             data := if c.direction = .push then descriptorData w else (s.desc d).data }).complete
           { result := .done, detail := 0x00 }))) ∧
  (∀ w : Window,
     let b := fun i => (byteAt w i).toNat
     let c := descriptorFields w
     FirstFailure
       [ (0x00, b 0 = 1), (0x01, b 1 ≤ 1), (0x02, b 2 ≤ 126), (0x03, b 3 ≤ 1),
         (0x04, 1 ≤ b 4 ∧ b 4 ≤ 12), (0x05, b 5 ≤ 1 ∧ (b 3 ≠ 1 → b 5 = 0)),
         (0x06, b 6 ≤ 31 ∨ b 6 = 255), (0x07, b 7 ≤ 2) ] (descriptorRange w) ∧
     (descriptorRange w = none →
       c.inUse = true ∧ c.line = (if b 1 = 0 then .a else .b) ∧ c.tag.toNat = b 2 ∧
       c.direction = (if b 3 = 0 then .poll else .push) ∧ c.length = b 4 ∧
       c.supply = (if b 5 = 0 then .stored else .deferred) ∧
       (∀ n : Fin 32, c.node = some n ↔ b 6 = n.val) ∧
       (b 7, c.notify) ∈ [(0, Notify.none), (1, .fail), (2, .all)]) ∧
     ∀ i, i < 12 → byteAt (descriptorData w) i = byteAt w (8 + i)) ∧
  (∀ (s : State) (d : Fin 64),
     (s.namedInClosure d = true ↔ ∃ k ∈ s.lockedClosure, ∃ i : Fin 128,
       (s.dir k).firstSlot ≤ i.val ∧ i.val < (s.dir k).firstSlot + (s.dir k).slotCount ∧
       (s.slot i).kind = .regular ∧ (s.slot i).descriptor = d) ∧
     (s.descriptorLocked d = true ↔ s.namedInClosure d = true ∨ (s.desc d).adhoc ≠ .none)) ∧
  (∀ c c' : DescriptorConfig,
     FirstFailure
       [ (0x00, c.inUse = c'.inUse), (0x01, c.line = c'.line), (0x02, c.tag = c'.tag),
         (0x03, c.direction = c'.direction), (0x04, c.length = c'.length),
         (0x05, c.supply = c'.supply), (0x06, c.node = c'.node), (0x07, c.notify = c'.notify) ]
       (descriptorDifference c c'))

/-- COMMIT of directory entries, slots, nodes and line settings: range and lock, or range and line, or state,
range and supply window, in the order given; a commit that passes writes the record whole, and a node commit
restarts the node's judgement. Each range check fails with the offset of the first field that fails, the
supply window against the push space coming after every range; a buffer that passes gives each field the
value of its bytes, a slot of a kind other than REGULAR holding descriptor 0. -/
def Obligations.CommitOfTheOtherTables : Prop :=
  (∀ w : Window,
    let b := fun i => (byteAt w i).toNat
    FirstFailure
      [ (0x00, b 0 = 1), (0x01, b 1 ≤ 127), (0x02, (1 ≤ b 2 ∧ b 2 ≤ 128) ∧ b 1 + b 2 ≤ 128),
        (0x03, b 3 ≤ 7 ∨ b 3 = 255) ] (directoryRange w) ∧
    (directoryRange w = none → directoryFields w =
      { inUse := true, firstSlot := b 1, slotCount := b 2,
        followOn := if h : b 3 < 8 then some ⟨b 3, h⟩ else none }) ∧
    FirstFailure
      [ (0x00, b 0 ≤ 5), (0x01, 8 ≤ b 1 + 256 * b 2 ∧ b 1 + 256 * b 2 ≤ 4095),
        (0x03, b 3 ∈ [1, 2, 4, 8, 16]), (0x04, b 4 < b 3), (0x05, b 0 = 1 → b 5 ≤ 63) ]
      (slotRange w) ∧
    (slotRange w = none →
      (b 0, (slotFields w).kind) ∈ [(0, SlotKind.empty), (1, .regular), (2, .gap), (3, .mark),
        (4, .open), (5, .hush)] ∧
      (slotFields w).length = b 1 + 256 * b 2 ∧ (slotFields w).divisor = b 3 ∧
      (slotFields w).phase = b 4 ∧
      (slotFields w).descriptor.val = if b 0 = 1 then b 5 else 0) ∧
    FirstFailure
      [ (0x00, b 0 = 1), (0x01, b 1 ≤ 1), (0x02, 1 ≤ b 2 ∧ b 2 ≤ 15), (0x03, 1 ≤ b 3 ∧ b 3 ≤ 31),
        (0x04, b 4 ∈ [1, 2, 4, 8, 16, 32, 64, 128]), (0x05, b 5 ≤ 1) ] (nodeRange w) ∧
    (nodeRange w = none → nodeFields w =
      { inUse := true, line := if b 1 = 0 then .a else .b, missThreshold := b 2,
        errorThreshold := b 3, probeDivisor := b 4, notify := decide (b 5 = 1) }) ∧
    FirstFailure
      [ (0x00, 80 ≤ b 0 + 256 * b 1 ∧ b 0 + 256 * b 1 ≤ 1666), (0x02, 12 ≤ b 2 ∧ b 2 ≤ 20),
        (0x03, 2 ≤ b 3 ∧ b 3 ≤ 5), (0x04, 2 ≤ b 4 ∧ b 4 ≤ 15), (0x05, b 5 ≤ 7),
        (0x06, 1 ≤ b 6 ∧ b 6 ≤ 7), (0x07, b 7 ≤ 3), (0x08, 4 ≤ b 8), (0x09, 30 ≤ b 9),
        (0x0A, 4 ≤ b 10 ∧ b 10 ≤ 16), (0x0B, 2 ≤ b 11 ∧ b 11 ≤ 15), (0x0C, 16 ≤ b 12),
        (0x0D, b 13 ≤ 1), (0x0E, b 14 ≤ 1), (0x08, b 6 ≤ b 8) ] (settingsRange w) ∧
    (settingsRange w = none → settingsFields w =
      { divisor := b 0 + 256 * b 1, alert := b 2, mark := b 3, replySpace := b 4, replyGap := b 5,
        pushSpace := b 6, pushGap := b 7, supplyWindow := b 8, stuckLimit := b 9, wakePulse := b 10,
        wakeQualify := b 11, recovery := b 12, holdPoint := if b 13 = 0 then .slot else .cycle,
        holdPinEnable := decide (b 14 = 1) })) ∧
  ∀ s : State, s.accepted = some .commit → s.port.isOpen = true →
    let w := s.port.buffer
    let refused (r : Result) (detail : Byte) : Prop :=
      exec .commit s = .next (s.complete { result := r, detail := detail })
    let done (t : State) : Prop :=
      exec .commit s = .next (t.complete { result := .done, detail := 0x00 })
    (∀ k : Fin 8, s.port.table = .directory → s.port.index = BitVec.ofNat 8 k.val →
      (∀ offset, directoryRange w = some offset → refused .range offset) ∧
      (directoryRange w = none →
        (k ∈ s.lockedClosure → refused .inUse (BitVec.ofNat 8 k.val)) ∧
        (k ∉ s.lockedClosure → done (s.setDir k (directoryFields w))))) ∧
    (∀ i : Fin 128, s.port.table = .slot → s.port.index = BitVec.ofNat 8 i.val →
      (∀ offset, slotRange w = some offset → refused .range offset) ∧
      (slotRange w = none →
        (∀ k ∈ s.lockedClosure, (s.dir k).covers i = true →
          (∀ j ∈ s.lockedClosure, (s.dir j).covers i = true → k ≤ j) →
          refused .inUse (BitVec.ofNat 8 k.val)) ∧
        ((∀ k ∈ s.lockedClosure, (s.dir k).covers i = false) →
          done (s.setSlot i (slotFields w))))) ∧
    (∀ n : Fin 32, s.port.table = .node → s.port.index = BitVec.ofNat 8 n.val →
      let moves := (s.node n).config.inUse = true ∧
        (nodeFields w).line ≠ (s.node n).config.line
      let names (d : Fin 64) :=
        (s.desc d).config.inUse = true ∧ (s.desc d).config.node = some n
      (∀ offset, nodeRange w = some offset → refused .range offset) ∧
      (nodeRange w = none →
        (∀ d, moves → names d → (∀ e, e < d → ¬ names e) →
          refused .inUse (BitVec.ofNat 8 d.val)) ∧
        (¬ moves ∨ (∀ d, ¬ names d) →
          done (s.setNode n
            { config := nodeFields w, state := .unknown, misses := 0, score := 0 })))) ∧
    (∀ x, s.port.table = .line → s.port.index = lineCode x →
      ((s.line x).lineState ≠ .off → refused .wrongState 0x00) ∧
      ((s.line x).lineState = .off →
        (∀ offset, settingsRange w = some offset → refused .range offset) ∧
        (settingsRange w = none →
          done (s.setLine x { s.line x with settings := settingsFields w }))))

/-- ERASE: a locked descriptor, directory entry or slot, a node that an in-use descriptor names and the
settings of a line that is not OFF are refused; every other entry returns to its power-on values, a node's
configuration too (assumption 22); the ADHOC table is refused WRONG_STATE. The locked closure is the closures
of both lines' active and pending schedules, and a schedule covers the slots from its first slot to its first
slot + slot count − 1. -/
def Obligations.EraseCommand : Prop :=
  (∀ (s : State) (k : Fin 8),
    (k ∈ s.lockedClosure ↔ ∃ x, k ∈ s.lineClosure x) ∧
    (∀ x, k ∈ s.lineClosure x ↔
      ∃ j, ((s.line x).active = some j ∨ (s.line x).pending = some j) ∧ k ∈ s.closure j)) ∧
  (∀ (e : DirectoryEntry) (i : Fin 128),
    e.covers i = true ↔ e.firstSlot ≤ i.val ∧ i.val < e.firstSlot + e.slotCount) ∧
  ∀ s : State,
    let refused (r : Result) (detail : Byte) : Prop :=
      exec .erase s = .next (s.complete { result := r, detail := detail })
    let done (t : State) : Prop :=
      exec .erase s = .next (t.complete { result := .done, detail := 0x00 })
    (∀ d : Fin 64, s.accepted = some (.erase .descriptor d.val) →
      (s.namedInClosure d = true → (s.desc d).adhoc = .none → refused .inUse 0x01) ∧
      (s.namedInClosure d = false → (s.desc d).adhoc ≠ .none → refused .inUse 0x02) ∧
      (s.namedInClosure d = true → (s.desc d).adhoc ≠ .none → refused .inUse 0x03) ∧
      (s.namedInClosure d = false → (s.desc d).adhoc = .none → done (s.setDesc d .initial))) ∧
    (∀ k : Fin 8, s.accepted = some (.erase .directory k.val) →
      (k ∈ s.lockedClosure → refused .inUse (BitVec.ofNat 8 k.val)) ∧
      (k ∉ s.lockedClosure → done (s.setDir k .initial))) ∧
    (∀ i : Fin 128, s.accepted = some (.erase .slot i.val) →
      (∀ k ∈ s.lockedClosure, (s.dir k).covers i = true →
        (∀ j ∈ s.lockedClosure, (s.dir j).covers i = true → k ≤ j) →
        refused .inUse (BitVec.ofNat 8 k.val)) ∧
      ((∀ k ∈ s.lockedClosure, (s.dir k).covers i = false) → done (s.setSlot i .initial))) ∧
    (∀ n : Fin 32, s.accepted = some (.erase .node n.val) →
      let names (d : Fin 64) :=
        (s.desc d).config.inUse = true ∧ (s.desc d).config.node = some n
      (∀ d, (s.node n).config.inUse = true → names d → (∀ e, e < d → ¬ names e) →
        refused .inUse (BitVec.ofNat 8 d.val)) ∧
      ((s.node n).config.inUse = false ∨ (∀ d, ¬ names d) → done (s.setNode n .initial))) ∧
    (∀ x, s.accepted = some (.erase .line (lineCode x).toNat) →
      ((s.line x).lineState ≠ .off → refused .wrongState 0x00) ∧
      ((s.line x).lineState = .off →
        done (s.setLine x { s.line x with settings := .initial }))) ∧
    (∀ i, s.accepted = some (.erase .adhoc i) → refused .wrongState 0x00)

/-! ## The register window -/

/-- What the window shows while RESETn is deasserted: the head record or NONE with zeros, the count, the
status flags, the line states with the frame states, the command unit's and the port's registers; and the
codes of the layouts. -/
def Obligations.RegisterReads : Prop :=
  ([LineId.a, .b].map lineCode = [0x00, 0x01] ∧ recordLineCode none = 0xFF ∧
    (∀ x, recordLineCode (some x) = lineCode x) ∧
    (∀ (n : Nat) (i : Fin n), indexCode (some i) = BitVec.ofNat 8 i.val) ∧
    (∀ n : Nat, indexCode (none : Option (Fin n)) = 0xFF) ∧
    [TableId.descriptor, .slot, .directory, .node, .line, .adhoc].map tableCode =
      [0x00, 0x01, 0x02, 0x03, 0x04, 0x05] ∧
    [Result.done, .badArg, .wrongState, .invalidSchedule, .inUse, .duplicateTag, .badReference, .range,
      .queueFull, .alreadyQueued, .notQueued, .notWaiting, .tooLate, .lineLow].map resultCode =
      [0x00, 0x01, 0x02, 0x03, 0x04, 0x05, 0x06, 0x07, 0x08, 0x09, 0x0A, 0x0B, 0x0C, 0x0D] ∧
    [LineState.off, .running, .draining, .held, .asleep, .waking, .fault].map lineStateCode =
      [0, 1, 2, 3, 4, 5, 6] ∧
    [FrameState.idle, .alert, .mark, .header, .replyWait, .reply, .supplyWait, .pushSpace,
      .push].map frameStateCode = [0, 1, 2, 3, 4, 5, 6, 7, 8] ∧
    [Cause.command, .stopped, .hold, .release, .reset, .hush, .remote, .stuck,
      .recovered].map causeCode = [1, 2, 3, 4, 5, 6, 7, 8, 9] ∧
    [NodeState.unused, .unknown, .present, .missing, .erratic].map nodeStateCode =
      [0, 1, 2, 3, 4] ∧
    [FrameOutcome.ok, .noReply, .shortReply, .crcFail, .framing, .readback, .lineStuck, .lateData,
      .cancelled].map outcomeCode = [0x01, 0x02, 0x03, 0x04, 0x05, 0x06, 0x07, 0x08, 0x09] ∧
    [EventKind.frameOk, .frameFail, .adhocEnd, .supplyDue, .cycleMark, .scheduleTaken, .lineChange,
      .nodeChange].map eventKindCode = [1, 2, 3, 4, 5, 6, 7, 8]) ∧
  ∀ s : State, s.inReset = false →
    s.readRegister 0x00 = 0x2C ∧ s.readRegister 0x01 = 0x01 ∧
    ((s.readRegister 0x02).getLsbD 0 = s.host.busy ∧
      (s.readRegister 0x02).getLsbD 1 = s.host.collided ∧
      (s.readRegister 0x02).getLsbD 2 = s.port.isOpen ∧
      ((s.readRegister 0x02).getLsbD 3 = true ↔
        s.events.intEnable = true ∧ s.events.queue ≠ []) ∧
      (s.readRegister 0x02).toNat < 16) ∧
    s.readRegister 0x03 = s.host.command ∧ s.readRegister 0x04 = s.host.arg0 ∧
    s.readRegister 0x05 = s.host.arg1 ∧ s.readRegister 0x06 = s.host.arg2 ∧
    s.readRegister 0x07 = s.host.arg3 ∧ s.readRegister 0x08 = resultCode s.host.result ∧
    s.readRegister 0x09 = s.host.detail ∧
    (∀ x, let r := s.readRegister (if x = .a then 0x0A else 0x0B)
      r.toNat % 8 = lineStateCode (s.line x).lineState ∧ r.getLsbD 3 = false ∧
        r.toNat / 16 = frameStateCode (s.line x).seq.frameState) ∧
    s.readRegister 0x0C = (if s.events.intEnable then 0x01 else 0x00) ∧
    s.readRegister 0x0D = s.events.kindMask ∧
    s.readRegister 0x0E = BitVec.ofNat 8 s.events.queue.length ∧
    (s.events.queue = [] →
      [0x10, 0x11, 0x12, 0x13, 0x14, 0x15, 0x16].map s.readRegister =
        [0x00, 0xFF, 0x00, 0x00, 0x00, 0x00, 0x00]) ∧
    (∀ r rest, s.events.queue = r :: rest →
      s.readRegister 0x10 = BitVec.ofNat 8 (eventKindCode r.post.kind) ∧
      s.readRegister 0x11 = recordLineCode r.post.line ∧ s.readRegister 0x12 = r.post.index ∧
      s.readRegister 0x13 = r.post.detail ∧
      (s.readRegister 0x15 ++ s.readRegister 0x14 : BitVec 16) = r.post.stamp ∧
      s.readRegister 0x16 = BitVec.ofNat 8 r.gap) ∧
    s.readRegister 0x18 = tableCode s.port.table ∧ s.readRegister 0x19 = s.port.index ∧
    (s.readRegister 0x1A).toNat = s.port.pointer.toNat ∧
    (s.host.busy = true → s.readRegister 0x1B = 0x00) ∧
    (s.host.busy = false → s.readRegister 0x1B = s.port.buffer[s.port.pointer.toNat]) ∧
    s.readRegister 0x1C = (if s.port.isOpen then 0x01 else 0x00) ∧
    [0x0F, 0x17, 0x1D, 0x1E, 0x1F].map s.readRegister = [0x00, 0x00, 0x00, 0x00, 0x00]

/-- POP removes the head record if there is one, the INT enable and the kind mask take the value written, all
three with BUSY set as well and with nothing else changed, bit 0 alone being the enable (assumption 26); INT is asserted while the enable is set and the
queue holds a record. ARG0 to ARG3 hold the value written, BUSY included; every register without behaviour of
its own ignores the write. -/
def Obligations.RegisterWrites : Prop :=
  (∀ (s : State) (v : Byte), s.inReset = false →
     (∀ r rest, s.events.queue = r :: rest →
       exec (.pop v) s = .next (s.setEvents { s.events with queue := rest })) ∧
     (s.events.queue = [] → exec (.pop v) s = .next s) ∧
     exec (.intEnableWrite v) s = .next
       (s.setEvents { s.events with intEnable := v.getLsbD 0 }) ∧
     exec (.kindMaskWrite v) s = .next (s.setEvents { s.events with kindMask := v }) ∧
     (s.events.intAsserted = true ↔ s.events.intEnable = true ∧ 0 < s.events.queue.length)) ∧
  (∀ (s : State) (v : Byte), s.inReset = false →
     exec (.registerWrite 0x04 v) s = .next (s.setHost { s.host with arg0 := v }) ∧
     exec (.registerWrite 0x05 v) s = .next (s.setHost { s.host with arg1 := v }) ∧
     exec (.registerWrite 0x06 v) s = .next (s.setHost { s.host with arg2 := v }) ∧
     exec (.registerWrite 0x07 v) s = .next (s.setHost { s.host with arg3 := v }) ∧
     ∀ a : BitVec 5, (Instr.registerWrite a v).wf = true → a ∉ [0x04, 0x05, 0x06, 0x07] →
       exec (.registerWrite a v) s = .next s)

/-- Port pointer, port data and port state: a pointer write keeps the low five bits, a data access reads or
writes the byte at the pointer, which then advances and stays at 31, a port state write closes the port and
keeps the rest; while BUSY is set each of them is refused with COLLIDED set, the read giving 00h. -/
def Obligations.PortAccesses : Prop :=
  ∀ (s : State) (v : Byte), s.inReset = false →
    let next : BitVec 5 := if s.port.pointer.toNat = 31 then 31 else s.port.pointer + 1
    (s.host.busy = false →
      exec (.portPointerWrite v) s = .next
        (s.setPort { s.port with pointer := v.extractLsb' 0 5 }) ∧
      exec .portDataRead s = .next
        { s with readData := s.port.buffer[s.port.pointer.toNat],
                 port := { s.port with pointer := next } } ∧
      exec (.portDataWrite v) s = .next
        (s.setPort { s.port with buffer := s.port.buffer.set s.port.pointer.toNat v,
                                 pointer := next }) ∧
      exec (.portStateWrite v) s = .next (s.setPort { s.port with isOpen := false })) ∧
    (s.host.busy = true →
      (∀ c ∈ [Instr.portPointerWrite v, .portDataWrite v, .portStateWrite v],
        exec c s = .next (s.setHost { s.host with collided := true })) ∧
      exec .portDataRead s = .next
        { s with readData := 0x00, host := { s.host with collided := true } })

/-! ## The event queue -/

/-- The arbiter's taking of the front post of a path: discarded where its kind is disabled, lost with the gap
counter advancing up to 15 where the queue holds 32 records, entered at the tail with the gap counter's
value otherwise. A line controller's front post waits while that line's reset records have their turn; the
command unit puts the records of a line's oldest held reset on its path only once every post the line's
controller made before the reset has been taken. That the posts made after a reset wait for its records is
an inference (assumption 8); that a taking which finds no post changes nothing is the model's choice
(assumption 3). -/
def Obligations.ArbiterAndResetRecords : Prop :=
  (∀ (s : State) (p : Poster),
     let e := s.events
     let waits (x : LineId) : Prop :=
       (∃ h ∈ e.holds, h.line = x ∧ h.waiting = 0) ∨ ∃ r ∈ e.pathUnit, r.line = some x
     (e.path p = [] → exec (.postTaken p) s = .next s) ∧
     (∀ x, p = .lineController x → waits x → exec (.postTaken p) s = .next s) ∧
     (∀ r rest, e.path p = r :: rest → (∀ x, p = .lineController x → ¬ waits x) →
       let enabled := e.kindMask.getLsbD (eventKindCode r.kind - 1) = true
       ∃ t, exec (.postTaken p) s = .next t ∧ t = s.setEvents t.events ∧
         t.events.path p = rest ∧ (∀ q, q ≠ p → t.events.path q = e.path q) ∧
         t.events.kindMask = e.kindMask ∧ t.events.intEnable = e.intEnable ∧
         t.events.holds =
           (match p with
           | .lineController x =>
             e.holds.map (fun h =>
               if h.line = x then { h with waiting := h.waiting - 1 } else h)
           | _ => e.holds) ∧
         (¬ enabled → t.events.queue = e.queue ∧ t.events.gap = e.gap) ∧
         (enabled → 32 ≤ e.queue.length →
           t.events.queue = e.queue ∧ t.events.gap = min 15 (e.gap + 1)) ∧
         (enabled → e.queue.length < 32 →
           t.events.queue = e.queue ++ [{ post := r, gap := e.gap }] ∧ t.events.gap = 0))) ∧
  (∀ (s : State) (x : LineId) (before after : List ResetHold) (h : ResetHold),
     s.events.holds = before ++ h :: after → h.line = x → (∀ g ∈ before, g.line ≠ x) →
     (0 < h.waiting → exec (.resetRecordsPosted x) s = .next s) ∧
     (h.waiting = 0 → exec (.resetRecordsPosted x) s = .next
       (s.setEvents
         { s.events with
           pathUnit := s.events.pathUnit ++ h.records, holds := before ++ after })))

/-! ## The whole device -/

/-- The closure of a schedule is its follow-on chain: it begins with the schedule, each further element is the
follow-on of the one before, none comes twice, the last one's follow-on is NONE or already in the chain, and
the closure of a follow-on lies inside the closure. -/
def Obligations.ClosureIsTheFollowOnChain : Prop :=
  ∀ (s : State) (k : Fin 8),
    (s.closure k).head? = some k ∧ (s.closure k).Nodup ∧ (s.closure k).length ≤ 8 ∧
    (∀ front a b back, s.closure k = front ++ a :: b :: back → (s.dir a).followOn = some b) ∧
    (∀ front a, s.closure k = front ++ [a] →
      ∀ j, (s.dir a).followOn = some j → j ∈ s.closure k) ∧
    (∀ j ∈ s.closure k, ∀ i ∈ s.closure j, i ∈ s.closure k)

/-- Validation passes exactly where every schedule of the closure is in use and every slot of its range
passes its kind's conditions, and it fails with the DETAIL of the first failure in chain order. -/
def Obligations.Validation : Prop :=
  ∀ (s : State) (x : LineId) (k : Fin 8),
    let slotOk (i : Fin 128) : Prop :=
      match (s.slot i).kind with
      | .empty => False
      | .gap | .mark | .open => True
      | .hush => maxFrameTime (s.line x).settings .hush 1 + 4 ≤ (s.slot i).length
      | .regular =>
        let c := (s.desc (s.slot i).descriptor).config
        c.inUse = true ∧ c.line = x ∧
          maxFrameTime (s.line x).settings (frameKindOf c) c.length + 4 ≤ (s.slot i).length
    let scheduleOk (j : Fin 8) : Prop :=
      (s.dir j).inUse = true ∧ ∀ i, (s.dir j).covers i = true → slotOk i
    (s.validationFailure x k = none ↔ ∀ j ∈ s.closure k, scheduleOk j) ∧
    (∀ front j back, s.closure k = front ++ j :: back → (∀ j' ∈ front, scheduleOk j') →
      ((s.dir j).inUse = false →
        s.validationFailure x k = some (BitVec.ofNat 8 (0x80 + j.val))) ∧
      (∀ i, (s.dir j).inUse = true → (s.dir j).covers i = true → ¬ slotOk i →
        (∀ i', i' < i → (s.dir j).covers i' = true → slotOk i') →
        s.validationFailure x k = some (BitVec.ofNat 8 i.val)))

/-- Every step keeps each active and pending schedule valid for its line, and, a power-on reset apart, leaves
the directory entries and slots of a line's closures, the configuration of the descriptors those slots name
and the settings of a line that is not OFF as they are. -/
def Obligations.SchedulesInUseStayAsValidated : Prop :=
  (∀ s t : State, s.SchedulesValid → step s = .next t → t.SchedulesValid) ∧
  ∀ (c : Instr) (s t : State), exec c s = .next t → c ≠ .powerOnReset →
    (∀ x, (s.line x).lineState ≠ .off → (t.line x).settings = (s.line x).settings) ∧
    ∀ x, ∀ k ∈ s.lineClosure x, t.dir k = s.dir k ∧
      ∀ i, (s.dir k).covers i = true → t.slot i = s.slot i ∧
        ((s.slot i).kind = .regular →
          (t.desc (s.slot i).descriptor).config = (s.desc (s.slot i).descriptor).config)

/-- A step that does not concern a line leaves that line's controller as it is: no command or event of one
line touches the other line's controller. -/
def Obligations.TheOtherLineIsUntouched : Prop :=
  ∀ (c : Instr) (s t : State) (x : LineId), exec c s = .next t → c ≠ .powerOnReset →
    Instr.lineOf s c ≠ some x → t.line x = s.line x

/-- Every step keeps the event queue bounded and the records of each poster in order: at most 32 records, the
gap counter and every gap field at most 15; the queue loses records only at its head, by a pop, and gains them
only at its tail, by the arbiter; a path gains posts only at its end and loses them only at its front, by the
arbiter. -/
def Obligations.EveryStepKeepsTheEventQueue : Prop :=
  (∀ s t : State, s.events.Bounded → step s = .next t → t.events.Bounded) ∧
  ∀ (c : Instr) (s t : State), exec c s = .next t → c ≠ .powerOnReset →
    (t.events.queue = s.events.queue ∨
      (∃ r, t.events.queue = s.events.queue ++ [r] ∧ ∃ p rest, c = .postTaken p ∧
        s.events.path p = r.post :: rest ∧ t.events.path p = rest) ∨
      (t.events.queue = s.events.queue.tail ∧
        ((∃ v, c = .pop v) ∨ ∃ v, c = .registerWrite 0x0F v))) ∧
    ∀ p, (∃ more, t.events.path p = s.events.path p ++ more) ∨
      (c = .postTaken p ∧ ∃ r, s.events.path p = r :: t.events.path p)

/-- Every table entry and every settings record stays in its range, no two in-use descriptors of one line
share a tag, and overwritten is set only while unread is. -/
def Obligations.EveryStepKeepsTheTablesInRange : Prop :=
  ∀ s t : State, s.TablesInRange → step s = .next t → t.TablesInRange

/-- Every node record stays within its bounds, UNUSED exactly while not in use, and a node that a descriptor
names stays in use and on that descriptor's line. -/
def Obligations.EveryStepKeepsTheNodesCoherent : Prop :=
  ∀ s t : State, s.NodesCoherent → step s = .next t → t.NodesCoherent

/-- The fields of each line controller keep the relations the chapters state between them. The line's pin, which
follows from them, is dominant throughout a wake pulse; outside one it is dominant in ALERT, released in IDLE,
MARK and the four waits, and driven bit by bit in HEADER and PUSH; so it is dominant only in RUNNING, DRAINING
or WAKING. -/
def Obligations.EveryStepKeepsTheLinesCoherent : Prop :=
  (∀ s t : State, s.LinesCoherent → step s = .next t → t.LinesCoherent) ∧
  (∀ s : State, s.LinesCoherent → ∀ x, (s.line x).pin = .dominant →
    (s.line x).lineState = .running ∨ (s.line x).lineState = .draining ∨
      (s.line x).lineState = .waking) ∧
  ∀ l : LineController,
    (l.monitor.wakePhase = .pulse → l.pin = .dominant) ∧
    (l.monitor.wakePhase ≠ .pulse →
      (l.seq.frameState = .alert → l.pin = .dominant) ∧
      (l.seq.frameState ∈ [FrameState.idle, .mark, .replyWait, .reply, .supplyWait, .pushSpace] →
        l.pin = .recessive) ∧
      (l.seq.frameState = .header →
        let bit := (l.elapsed - (l.settings.alert + l.settings.mark) * l.settings.divisor)
          / l.settings.divisor
        l.pin = characterBit (byteAt l.seq.txBuffer (bit / 10)) (bit % 10)) ∧
      (∀ start, l.seq.frameState = .push → l.seq.pushStart = some start →
        let bit := (l.elapsed - start) / l.settings.divisor
        let length := 10 + l.settings.pushGap
        l.pin = characterBit (byteAt l.seq.txBuffer (2 + bit / length)) (bit % length)))

/-- The ad-hoc state of every descriptor stays the view of its line's queue and in-flight request. -/
def Obligations.EveryStepKeepsTheAdhocViews : Prop :=
  ∀ s t : State, s.AdhocViews → step s = .next t → t.AdhocViews

/-- The machine right after reset meets every invariant that the steps keep. -/
def Obligations.ResetMeetsTheInvariants : Prop :=
  State.reset.events.Bounded ∧ State.reset.TablesInRange ∧ State.reset.NodesCoherent ∧
    State.reset.LinesCoherent ∧ State.reset.AdhocViews ∧ State.reset.SchedulesValid
end

