-- ==== Sys2Proof/Laws/State.lean ====
section
/-! SUPPORT. One lemma per field per update: what each setter of the state leaves and what it writes, so that
no later proof unfolds a record update. -/

namespace Sys2Proof.Machine

/-! ## Lines -/

@[simp] theorem State.setLine_inReset (s : State) (x : LineId) (l : LineController) :
    (s.setLine x l).inReset = s.inReset := by cases x <;> rfl
@[simp] theorem State.setLine_readData (s : State) (x : LineId) (l : LineController) :
    (s.setLine x l).readData = s.readData := by cases x <;> rfl
@[simp] theorem State.setLine_host (s : State) (x : LineId) (l : LineController) :
    (s.setLine x l).host = s.host := by cases x <;> rfl
@[simp] theorem State.setLine_port (s : State) (x : LineId) (l : LineController) :
    (s.setLine x l).port = s.port := by cases x <;> rfl
@[simp] theorem State.setLine_descriptors (s : State) (x : LineId) (l : LineController) :
    (s.setLine x l).descriptors = s.descriptors := by cases x <;> rfl
@[simp] theorem State.setLine_directory (s : State) (x : LineId) (l : LineController) :
    (s.setLine x l).directory = s.directory := by cases x <;> rfl
@[simp] theorem State.setLine_slots (s : State) (x : LineId) (l : LineController) :
    (s.setLine x l).slots = s.slots := by cases x <;> rfl
@[simp] theorem State.setLine_nodes (s : State) (x : LineId) (l : LineController) :
    (s.setLine x l).nodes = s.nodes := by cases x <;> rfl
@[simp] theorem State.setLine_events (s : State) (x : LineId) (l : LineController) :
    (s.setLine x l).events = s.events := by cases x <;> rfl
@[simp] theorem State.setLine_freeCount (s : State) (x : LineId) (l : LineController) :
    (s.setLine x l).freeCount = s.freeCount := by cases x <;> rfl
@[simp] theorem State.setLine_pending (s : State) (x : LineId) (l : LineController) :
    (s.setLine x l).pending = s.pending := by cases x <;> rfl
@[simp] theorem State.setLine_line_same (s : State) (x : LineId) (l : LineController) :
    (s.setLine x l).line x = l := by cases x <;> rfl
theorem State.setLine_line_other (s : State) {x y : LineId} (l : LineController) (h : y ≠ x) :
    (s.setLine x l).line y = s.line y := by cases x <;> cases y <;> first | rfl | exact absurd rfl h
@[simp] theorem State.setLine_line_b_of_a (s : State) (l : LineController) :
    (s.setLine .a l).line .b = s.line .b := rfl
@[simp] theorem State.setLine_line_a_of_b (s : State) (l : LineController) :
    (s.setLine .b l).line .a = s.line .a := rfl
theorem State.setLine_line (s : State) (x y : LineId) (l : LineController) :
    (s.setLine x l).line y = if y = x then l else s.line y := by cases x <;> cases y <;> rfl
@[simp] theorem State.setLine_setLine (s : State) (x : LineId) (l m : LineController) :
    (s.setLine x l).setLine x m = s.setLine x m := by cases x <;> rfl
@[simp] theorem State.setLine_line_self (s : State) (x : LineId) :
    s.setLine x (s.line x) = s := by cases x <;> rfl
@[simp] theorem State.setLine_desc (s : State) (x : LineId) (l : LineController) (d : Fin 64) :
    (s.setLine x l).desc d = s.desc d := by cases x <;> rfl
@[simp] theorem State.setLine_dir (s : State) (x : LineId) (l : LineController) (d : Fin 8) :
    (s.setLine x l).dir d = s.dir d := by cases x <;> rfl
@[simp] theorem State.setLine_slot (s : State) (x : LineId) (l : LineController) (d : Fin 128) :
    (s.setLine x l).slot d = s.slot d := by cases x <;> rfl
@[simp] theorem State.setLine_node (s : State) (x : LineId) (l : LineController) (d : Fin 32) :
    (s.setLine x l).node d = s.node d := by cases x <;> rfl
@[simp] theorem State.setLine_accepted (s : State) (x : LineId) (l : LineController) :
    (s.setLine x l).accepted = s.accepted := by cases x <;> rfl

/-! ## Sequencer and monitor of a line -/

@[simp] theorem State.setSeq_inReset (s : State) (x : LineId) (v : Sequencer) :
    (s.setSeq x v).inReset = s.inReset := by cases x <;> rfl
@[simp] theorem State.setSeq_readData (s : State) (x : LineId) (v : Sequencer) :
    (s.setSeq x v).readData = s.readData := by cases x <;> rfl
@[simp] theorem State.setSeq_host (s : State) (x : LineId) (v : Sequencer) :
    (s.setSeq x v).host = s.host := by cases x <;> rfl
@[simp] theorem State.setSeq_port (s : State) (x : LineId) (v : Sequencer) :
    (s.setSeq x v).port = s.port := by cases x <;> rfl
@[simp] theorem State.setSeq_descriptors (s : State) (x : LineId) (v : Sequencer) :
    (s.setSeq x v).descriptors = s.descriptors := by cases x <;> rfl
@[simp] theorem State.setSeq_directory (s : State) (x : LineId) (v : Sequencer) :
    (s.setSeq x v).directory = s.directory := by cases x <;> rfl
@[simp] theorem State.setSeq_slots (s : State) (x : LineId) (v : Sequencer) :
    (s.setSeq x v).slots = s.slots := by cases x <;> rfl
@[simp] theorem State.setSeq_nodes (s : State) (x : LineId) (v : Sequencer) :
    (s.setSeq x v).nodes = s.nodes := by cases x <;> rfl
@[simp] theorem State.setSeq_events (s : State) (x : LineId) (v : Sequencer) :
    (s.setSeq x v).events = s.events := by cases x <;> rfl
@[simp] theorem State.setSeq_freeCount (s : State) (x : LineId) (v : Sequencer) :
    (s.setSeq x v).freeCount = s.freeCount := by cases x <;> rfl
@[simp] theorem State.setSeq_pending (s : State) (x : LineId) (v : Sequencer) :
    (s.setSeq x v).pending = s.pending := by cases x <;> rfl
@[simp] theorem State.setSeq_line_same (s : State) (x : LineId) (v : Sequencer) :
    (s.setSeq x v).line x = { s.line x with seq := v } := by cases x <;> rfl
theorem State.setSeq_line_other (s : State) {x y : LineId} (v : Sequencer) (h : y ≠ x) :
    (s.setSeq x v).line y = s.line y := State.setLine_line_other s _ h
@[simp] theorem State.setSeq_desc (s : State) (x : LineId) (v : Sequencer) (d : Fin 64) :
    (s.setSeq x v).desc d = s.desc d := by cases x <;> rfl
@[simp] theorem State.setSeq_dir (s : State) (x : LineId) (v : Sequencer) (d : Fin 8) :
    (s.setSeq x v).dir d = s.dir d := by cases x <;> rfl
@[simp] theorem State.setSeq_slot (s : State) (x : LineId) (v : Sequencer) (d : Fin 128) :
    (s.setSeq x v).slot d = s.slot d := by cases x <;> rfl
@[simp] theorem State.setSeq_node (s : State) (x : LineId) (v : Sequencer) (d : Fin 32) :
    (s.setSeq x v).node d = s.node d := by cases x <;> rfl
@[simp] theorem State.setMonitor_inReset (s : State) (x : LineId) (v : Monitor) :
    (s.setMonitor x v).inReset = s.inReset := by cases x <;> rfl
@[simp] theorem State.setMonitor_readData (s : State) (x : LineId) (v : Monitor) :
    (s.setMonitor x v).readData = s.readData := by cases x <;> rfl
@[simp] theorem State.setMonitor_host (s : State) (x : LineId) (v : Monitor) :
    (s.setMonitor x v).host = s.host := by cases x <;> rfl
@[simp] theorem State.setMonitor_port (s : State) (x : LineId) (v : Monitor) :
    (s.setMonitor x v).port = s.port := by cases x <;> rfl
@[simp] theorem State.setMonitor_descriptors (s : State) (x : LineId) (v : Monitor) :
    (s.setMonitor x v).descriptors = s.descriptors := by cases x <;> rfl
@[simp] theorem State.setMonitor_directory (s : State) (x : LineId) (v : Monitor) :
    (s.setMonitor x v).directory = s.directory := by cases x <;> rfl
@[simp] theorem State.setMonitor_slots (s : State) (x : LineId) (v : Monitor) :
    (s.setMonitor x v).slots = s.slots := by cases x <;> rfl
@[simp] theorem State.setMonitor_nodes (s : State) (x : LineId) (v : Monitor) :
    (s.setMonitor x v).nodes = s.nodes := by cases x <;> rfl
@[simp] theorem State.setMonitor_events (s : State) (x : LineId) (v : Monitor) :
    (s.setMonitor x v).events = s.events := by cases x <;> rfl
@[simp] theorem State.setMonitor_freeCount (s : State) (x : LineId) (v : Monitor) :
    (s.setMonitor x v).freeCount = s.freeCount := by cases x <;> rfl
@[simp] theorem State.setMonitor_pending (s : State) (x : LineId) (v : Monitor) :
    (s.setMonitor x v).pending = s.pending := by cases x <;> rfl
@[simp] theorem State.setMonitor_line_same (s : State) (x : LineId) (v : Monitor) :
    (s.setMonitor x v).line x = { s.line x with monitor := v } := by cases x <;> rfl
theorem State.setMonitor_line_other (s : State) {x y : LineId} (v : Monitor) (h : y ≠ x) :
    (s.setMonitor x v).line y = s.line y := State.setLine_line_other s _ h
@[simp] theorem State.setMonitor_desc (s : State) (x : LineId) (v : Monitor) (d : Fin 64) :
    (s.setMonitor x v).desc d = s.desc d := by cases x <;> rfl
@[simp] theorem State.setMonitor_dir (s : State) (x : LineId) (v : Monitor) (d : Fin 8) :
    (s.setMonitor x v).dir d = s.dir d := by cases x <;> rfl
@[simp] theorem State.setMonitor_slot (s : State) (x : LineId) (v : Monitor) (d : Fin 128) :
    (s.setMonitor x v).slot d = s.slot d := by cases x <;> rfl
@[simp] theorem State.setMonitor_node (s : State) (x : LineId) (v : Monitor) (d : Fin 32) :
    (s.setMonitor x v).node d = s.node d := by cases x <;> rfl

/-! ## Table entries -/

@[simp] theorem State.setDesc_inReset (s : State) (i : Fin 64) (v : Descriptor) :
    (s.setDesc i v).inReset = s.inReset := rfl
@[simp] theorem State.setDesc_readData (s : State) (i : Fin 64) (v : Descriptor) :
    (s.setDesc i v).readData = s.readData := rfl
@[simp] theorem State.setDesc_host (s : State) (i : Fin 64) (v : Descriptor) :
    (s.setDesc i v).host = s.host := rfl
@[simp] theorem State.setDesc_port (s : State) (i : Fin 64) (v : Descriptor) :
    (s.setDesc i v).port = s.port := rfl
@[simp] theorem State.setDesc_directory (s : State) (i : Fin 64) (v : Descriptor) :
    (s.setDesc i v).directory = s.directory := rfl
@[simp] theorem State.setDesc_slots (s : State) (i : Fin 64) (v : Descriptor) :
    (s.setDesc i v).slots = s.slots := rfl
@[simp] theorem State.setDesc_nodes (s : State) (i : Fin 64) (v : Descriptor) :
    (s.setDesc i v).nodes = s.nodes := rfl
@[simp] theorem State.setDesc_lineA (s : State) (i : Fin 64) (v : Descriptor) :
    (s.setDesc i v).lineA = s.lineA := rfl
@[simp] theorem State.setDesc_lineB (s : State) (i : Fin 64) (v : Descriptor) :
    (s.setDesc i v).lineB = s.lineB := rfl
@[simp] theorem State.setDesc_events (s : State) (i : Fin 64) (v : Descriptor) :
    (s.setDesc i v).events = s.events := rfl
@[simp] theorem State.setDesc_freeCount (s : State) (i : Fin 64) (v : Descriptor) :
    (s.setDesc i v).freeCount = s.freeCount := rfl
@[simp] theorem State.setDesc_pending (s : State) (i : Fin 64) (v : Descriptor) :
    (s.setDesc i v).pending = s.pending := rfl
@[simp] theorem State.setDesc_line (s : State) (i : Fin 64) (v : Descriptor) (y : LineId) :
    (s.setDesc i v).line y = s.line y := by cases y <;> rfl
theorem State.setDesc_desc (s : State) (i j : Fin 64) (v : Descriptor) :
    (s.setDesc i v).desc j = if i = j then v else s.desc j := by
  simp [State.setDesc, State.desc, Vector.getElem_set, Fin.ext_iff]
@[simp] theorem State.setDesc_desc_same (s : State) (i : Fin 64) (v : Descriptor) :
    (s.setDesc i v).desc i = v := by simp [State.setDesc_desc]
theorem State.setDesc_desc_other (s : State) {i j : Fin 64} (v : Descriptor) (h : j ≠ i) :
    (s.setDesc i v).desc j = s.desc j := by simp [State.setDesc_desc, Ne.symm h]
@[simp] theorem State.setDesc_dir (s : State) (i : Fin 64) (v : Descriptor) (j : Fin 8) :
    (s.setDesc i v).dir j = s.dir j := rfl
@[simp] theorem State.setDesc_slot (s : State) (i : Fin 64) (v : Descriptor) (j : Fin 128) :
    (s.setDesc i v).slot j = s.slot j := rfl
@[simp] theorem State.setDesc_node (s : State) (i : Fin 64) (v : Descriptor) (j : Fin 32) :
    (s.setDesc i v).node j = s.node j := rfl
@[simp] theorem State.setDesc_accepted (s : State) (i : Fin 64) (v : Descriptor) :
    (s.setDesc i v).accepted = s.accepted := rfl
@[simp] theorem State.setDir_inReset (s : State) (i : Fin 8) (v : DirectoryEntry) :
    (s.setDir i v).inReset = s.inReset := rfl
@[simp] theorem State.setDir_readData (s : State) (i : Fin 8) (v : DirectoryEntry) :
    (s.setDir i v).readData = s.readData := rfl
@[simp] theorem State.setDir_host (s : State) (i : Fin 8) (v : DirectoryEntry) :
    (s.setDir i v).host = s.host := rfl
@[simp] theorem State.setDir_port (s : State) (i : Fin 8) (v : DirectoryEntry) :
    (s.setDir i v).port = s.port := rfl
@[simp] theorem State.setDir_descriptors (s : State) (i : Fin 8) (v : DirectoryEntry) :
    (s.setDir i v).descriptors = s.descriptors := rfl
@[simp] theorem State.setDir_slots (s : State) (i : Fin 8) (v : DirectoryEntry) :
    (s.setDir i v).slots = s.slots := rfl
@[simp] theorem State.setDir_nodes (s : State) (i : Fin 8) (v : DirectoryEntry) :
    (s.setDir i v).nodes = s.nodes := rfl
@[simp] theorem State.setDir_lineA (s : State) (i : Fin 8) (v : DirectoryEntry) :
    (s.setDir i v).lineA = s.lineA := rfl
@[simp] theorem State.setDir_lineB (s : State) (i : Fin 8) (v : DirectoryEntry) :
    (s.setDir i v).lineB = s.lineB := rfl
@[simp] theorem State.setDir_events (s : State) (i : Fin 8) (v : DirectoryEntry) :
    (s.setDir i v).events = s.events := rfl
@[simp] theorem State.setDir_freeCount (s : State) (i : Fin 8) (v : DirectoryEntry) :
    (s.setDir i v).freeCount = s.freeCount := rfl
@[simp] theorem State.setDir_pending (s : State) (i : Fin 8) (v : DirectoryEntry) :
    (s.setDir i v).pending = s.pending := rfl
@[simp] theorem State.setDir_line (s : State) (i : Fin 8) (v : DirectoryEntry) (y : LineId) :
    (s.setDir i v).line y = s.line y := by cases y <;> rfl
theorem State.setDir_dir (s : State) (i j : Fin 8) (v : DirectoryEntry) :
    (s.setDir i v).dir j = if i = j then v else s.dir j := by
  simp [State.setDir, State.dir, Vector.getElem_set, Fin.ext_iff]
@[simp] theorem State.setDir_dir_same (s : State) (i : Fin 8) (v : DirectoryEntry) :
    (s.setDir i v).dir i = v := by simp [State.setDir_dir]
theorem State.setDir_dir_other (s : State) {i j : Fin 8} (v : DirectoryEntry) (h : j ≠ i) :
    (s.setDir i v).dir j = s.dir j := by simp [State.setDir_dir, Ne.symm h]
@[simp] theorem State.setDir_desc (s : State) (i : Fin 8) (v : DirectoryEntry) (j : Fin 64) :
    (s.setDir i v).desc j = s.desc j := rfl
@[simp] theorem State.setDir_slot (s : State) (i : Fin 8) (v : DirectoryEntry) (j : Fin 128) :
    (s.setDir i v).slot j = s.slot j := rfl
@[simp] theorem State.setDir_node (s : State) (i : Fin 8) (v : DirectoryEntry) (j : Fin 32) :
    (s.setDir i v).node j = s.node j := rfl
@[simp] theorem State.setDir_accepted (s : State) (i : Fin 8) (v : DirectoryEntry) :
    (s.setDir i v).accepted = s.accepted := rfl
@[simp] theorem State.setSlot_inReset (s : State) (i : Fin 128) (v : Slot) :
    (s.setSlot i v).inReset = s.inReset := rfl
@[simp] theorem State.setSlot_readData (s : State) (i : Fin 128) (v : Slot) :
    (s.setSlot i v).readData = s.readData := rfl
@[simp] theorem State.setSlot_host (s : State) (i : Fin 128) (v : Slot) :
    (s.setSlot i v).host = s.host := rfl
@[simp] theorem State.setSlot_port (s : State) (i : Fin 128) (v : Slot) :
    (s.setSlot i v).port = s.port := rfl
@[simp] theorem State.setSlot_descriptors (s : State) (i : Fin 128) (v : Slot) :
    (s.setSlot i v).descriptors = s.descriptors := rfl
@[simp] theorem State.setSlot_directory (s : State) (i : Fin 128) (v : Slot) :
    (s.setSlot i v).directory = s.directory := rfl
@[simp] theorem State.setSlot_nodes (s : State) (i : Fin 128) (v : Slot) :
    (s.setSlot i v).nodes = s.nodes := rfl
@[simp] theorem State.setSlot_lineA (s : State) (i : Fin 128) (v : Slot) :
    (s.setSlot i v).lineA = s.lineA := rfl
@[simp] theorem State.setSlot_lineB (s : State) (i : Fin 128) (v : Slot) :
    (s.setSlot i v).lineB = s.lineB := rfl
@[simp] theorem State.setSlot_events (s : State) (i : Fin 128) (v : Slot) :
    (s.setSlot i v).events = s.events := rfl
@[simp] theorem State.setSlot_freeCount (s : State) (i : Fin 128) (v : Slot) :
    (s.setSlot i v).freeCount = s.freeCount := rfl
@[simp] theorem State.setSlot_pending (s : State) (i : Fin 128) (v : Slot) :
    (s.setSlot i v).pending = s.pending := rfl
@[simp] theorem State.setSlot_line (s : State) (i : Fin 128) (v : Slot) (y : LineId) :
    (s.setSlot i v).line y = s.line y := by cases y <;> rfl
theorem State.setSlot_slot (s : State) (i j : Fin 128) (v : Slot) :
    (s.setSlot i v).slot j = if i = j then v else s.slot j := by
  simp [State.setSlot, State.slot, Vector.getElem_set, Fin.ext_iff]
@[simp] theorem State.setSlot_slot_same (s : State) (i : Fin 128) (v : Slot) :
    (s.setSlot i v).slot i = v := by simp [State.setSlot_slot]
theorem State.setSlot_slot_other (s : State) {i j : Fin 128} (v : Slot) (h : j ≠ i) :
    (s.setSlot i v).slot j = s.slot j := by simp [State.setSlot_slot, Ne.symm h]
@[simp] theorem State.setSlot_desc (s : State) (i : Fin 128) (v : Slot) (j : Fin 64) :
    (s.setSlot i v).desc j = s.desc j := rfl
@[simp] theorem State.setSlot_dir (s : State) (i : Fin 128) (v : Slot) (j : Fin 8) :
    (s.setSlot i v).dir j = s.dir j := rfl
@[simp] theorem State.setSlot_node (s : State) (i : Fin 128) (v : Slot) (j : Fin 32) :
    (s.setSlot i v).node j = s.node j := rfl
@[simp] theorem State.setSlot_accepted (s : State) (i : Fin 128) (v : Slot) :
    (s.setSlot i v).accepted = s.accepted := rfl
@[simp] theorem State.setNode_inReset (s : State) (i : Fin 32) (v : Node) :
    (s.setNode i v).inReset = s.inReset := rfl
@[simp] theorem State.setNode_readData (s : State) (i : Fin 32) (v : Node) :
    (s.setNode i v).readData = s.readData := rfl
@[simp] theorem State.setNode_host (s : State) (i : Fin 32) (v : Node) :
    (s.setNode i v).host = s.host := rfl
@[simp] theorem State.setNode_port (s : State) (i : Fin 32) (v : Node) :
    (s.setNode i v).port = s.port := rfl
@[simp] theorem State.setNode_descriptors (s : State) (i : Fin 32) (v : Node) :
    (s.setNode i v).descriptors = s.descriptors := rfl
@[simp] theorem State.setNode_directory (s : State) (i : Fin 32) (v : Node) :
    (s.setNode i v).directory = s.directory := rfl
@[simp] theorem State.setNode_slots (s : State) (i : Fin 32) (v : Node) :
    (s.setNode i v).slots = s.slots := rfl
@[simp] theorem State.setNode_lineA (s : State) (i : Fin 32) (v : Node) :
    (s.setNode i v).lineA = s.lineA := rfl
@[simp] theorem State.setNode_lineB (s : State) (i : Fin 32) (v : Node) :
    (s.setNode i v).lineB = s.lineB := rfl
@[simp] theorem State.setNode_events (s : State) (i : Fin 32) (v : Node) :
    (s.setNode i v).events = s.events := rfl
@[simp] theorem State.setNode_freeCount (s : State) (i : Fin 32) (v : Node) :
    (s.setNode i v).freeCount = s.freeCount := rfl
@[simp] theorem State.setNode_pending (s : State) (i : Fin 32) (v : Node) :
    (s.setNode i v).pending = s.pending := rfl
@[simp] theorem State.setNode_line (s : State) (i : Fin 32) (v : Node) (y : LineId) :
    (s.setNode i v).line y = s.line y := by cases y <;> rfl
theorem State.setNode_node (s : State) (i j : Fin 32) (v : Node) :
    (s.setNode i v).node j = if i = j then v else s.node j := by
  simp [State.setNode, State.node, Vector.getElem_set, Fin.ext_iff]
@[simp] theorem State.setNode_node_same (s : State) (i : Fin 32) (v : Node) :
    (s.setNode i v).node i = v := by simp [State.setNode_node]
theorem State.setNode_node_other (s : State) {i j : Fin 32} (v : Node) (h : j ≠ i) :
    (s.setNode i v).node j = s.node j := by simp [State.setNode_node, Ne.symm h]
@[simp] theorem State.setNode_desc (s : State) (i : Fin 32) (v : Node) (j : Fin 64) :
    (s.setNode i v).desc j = s.desc j := rfl
@[simp] theorem State.setNode_dir (s : State) (i : Fin 32) (v : Node) (j : Fin 8) :
    (s.setNode i v).dir j = s.dir j := rfl
@[simp] theorem State.setNode_slot (s : State) (i : Fin 32) (v : Node) (j : Fin 128) :
    (s.setNode i v).slot j = s.slot j := rfl
@[simp] theorem State.setNode_accepted (s : State) (i : Fin 32) (v : Node) :
    (s.setNode i v).accepted = s.accepted := rfl
@[simp] theorem State.setAdhoc_inReset (s : State) (d : Fin 64) (v : AdhocView) :
    (s.setAdhoc d v).inReset = s.inReset := rfl
@[simp] theorem State.setAdhoc_readData (s : State) (d : Fin 64) (v : AdhocView) :
    (s.setAdhoc d v).readData = s.readData := rfl
@[simp] theorem State.setAdhoc_host (s : State) (d : Fin 64) (v : AdhocView) :
    (s.setAdhoc d v).host = s.host := rfl
@[simp] theorem State.setAdhoc_port (s : State) (d : Fin 64) (v : AdhocView) :
    (s.setAdhoc d v).port = s.port := rfl
@[simp] theorem State.setAdhoc_directory (s : State) (d : Fin 64) (v : AdhocView) :
    (s.setAdhoc d v).directory = s.directory := rfl
@[simp] theorem State.setAdhoc_slots (s : State) (d : Fin 64) (v : AdhocView) :
    (s.setAdhoc d v).slots = s.slots := rfl
@[simp] theorem State.setAdhoc_nodes (s : State) (d : Fin 64) (v : AdhocView) :
    (s.setAdhoc d v).nodes = s.nodes := rfl
@[simp] theorem State.setAdhoc_lineA (s : State) (d : Fin 64) (v : AdhocView) :
    (s.setAdhoc d v).lineA = s.lineA := rfl
@[simp] theorem State.setAdhoc_lineB (s : State) (d : Fin 64) (v : AdhocView) :
    (s.setAdhoc d v).lineB = s.lineB := rfl
@[simp] theorem State.setAdhoc_events (s : State) (d : Fin 64) (v : AdhocView) :
    (s.setAdhoc d v).events = s.events := rfl
@[simp] theorem State.setAdhoc_freeCount (s : State) (d : Fin 64) (v : AdhocView) :
    (s.setAdhoc d v).freeCount = s.freeCount := rfl
@[simp] theorem State.setAdhoc_pending (s : State) (d : Fin 64) (v : AdhocView) :
    (s.setAdhoc d v).pending = s.pending := rfl
@[simp] theorem State.setAdhoc_line (s : State) (d : Fin 64) (v : AdhocView) (y : LineId) :
    (s.setAdhoc d v).line y = s.line y := by cases y <;> rfl
theorem State.setAdhoc_desc (s : State) (d e : Fin 64) (v : AdhocView) :
    (s.setAdhoc d v).desc e = if d = e then { s.desc e with adhoc := v } else s.desc e := by
  unfold State.setAdhoc
  rw [State.setDesc_desc]
  split <;> simp_all
@[simp] theorem State.setAdhoc_config (s : State) (d e : Fin 64) (v : AdhocView) :
    ((s.setAdhoc d v).desc e).config = (s.desc e).config := by
  rw [State.setAdhoc_desc]; split <;> rfl
@[simp] theorem State.setAdhoc_dir (s : State) (d : Fin 64) (v : AdhocView) (j : Fin 8) :
    (s.setAdhoc d v).dir j = s.dir j := rfl
@[simp] theorem State.setAdhoc_slot (s : State) (d : Fin 64) (v : AdhocView) (j : Fin 128) :
    (s.setAdhoc d v).slot j = s.slot j := rfl
@[simp] theorem State.setAdhoc_node (s : State) (d : Fin 64) (v : AdhocView) (j : Fin 32) :
    (s.setAdhoc d v).node j = s.node j := rfl
@[simp] theorem State.mapNodes_inReset (s : State) (f : Node → Node) :
    (s.mapNodes f).inReset = s.inReset := rfl
@[simp] theorem State.mapNodes_readData (s : State) (f : Node → Node) :
    (s.mapNodes f).readData = s.readData := rfl
@[simp] theorem State.mapNodes_host (s : State) (f : Node → Node) :
    (s.mapNodes f).host = s.host := rfl
@[simp] theorem State.mapNodes_port (s : State) (f : Node → Node) :
    (s.mapNodes f).port = s.port := rfl
@[simp] theorem State.mapNodes_descriptors (s : State) (f : Node → Node) :
    (s.mapNodes f).descriptors = s.descriptors := rfl
@[simp] theorem State.mapNodes_directory (s : State) (f : Node → Node) :
    (s.mapNodes f).directory = s.directory := rfl
@[simp] theorem State.mapNodes_slots (s : State) (f : Node → Node) :
    (s.mapNodes f).slots = s.slots := rfl
@[simp] theorem State.mapNodes_lineA (s : State) (f : Node → Node) :
    (s.mapNodes f).lineA = s.lineA := rfl
@[simp] theorem State.mapNodes_lineB (s : State) (f : Node → Node) :
    (s.mapNodes f).lineB = s.lineB := rfl
@[simp] theorem State.mapNodes_events (s : State) (f : Node → Node) :
    (s.mapNodes f).events = s.events := rfl
@[simp] theorem State.mapNodes_freeCount (s : State) (f : Node → Node) :
    (s.mapNodes f).freeCount = s.freeCount := rfl
@[simp] theorem State.mapNodes_pending (s : State) (f : Node → Node) :
    (s.mapNodes f).pending = s.pending := rfl
@[simp] theorem State.mapNodes_line (s : State) (f : Node → Node) (y : LineId) :
    (s.mapNodes f).line y = s.line y := by cases y <;> rfl
@[simp] theorem State.mapNodes_node (s : State) (f : Node → Node) (n : Fin 32) :
    (s.mapNodes f).node n = f (s.node n) := by
  simp [State.mapNodes, State.node]
@[simp] theorem State.mapNodes_desc (s : State) (f : Node → Node) (j : Fin 64) :
    (s.mapNodes f).desc j = s.desc j := rfl
@[simp] theorem State.mapNodes_dir (s : State) (f : Node → Node) (j : Fin 8) :
    (s.mapNodes f).dir j = s.dir j := rfl
@[simp] theorem State.mapNodes_slot (s : State) (f : Node → Node) (j : Fin 128) :
    (s.mapNodes f).slot j = s.slot j := rfl

/-! ## Command unit, table port and event unit -/

@[simp] theorem State.setHost_inReset (s : State) (v : HostPort) :
    (s.setHost v).inReset = s.inReset := rfl
@[simp] theorem State.setHost_readData (s : State) (v : HostPort) :
    (s.setHost v).readData = s.readData := rfl
@[simp] theorem State.setHost_host (s : State) (v : HostPort) : (s.setHost v).host = v := rfl
@[simp] theorem State.setHost_port (s : State) (v : HostPort) : (s.setHost v).port = s.port := rfl
@[simp] theorem State.setHost_descriptors (s : State) (v : HostPort) :
    (s.setHost v).descriptors = s.descriptors := rfl
@[simp] theorem State.setHost_directory (s : State) (v : HostPort) :
    (s.setHost v).directory = s.directory := rfl
@[simp] theorem State.setHost_slots (s : State) (v : HostPort) :
    (s.setHost v).slots = s.slots := rfl
@[simp] theorem State.setHost_nodes (s : State) (v : HostPort) :
    (s.setHost v).nodes = s.nodes := rfl
@[simp] theorem State.setHost_lineA (s : State) (v : HostPort) :
    (s.setHost v).lineA = s.lineA := rfl
@[simp] theorem State.setHost_lineB (s : State) (v : HostPort) :
    (s.setHost v).lineB = s.lineB := rfl
@[simp] theorem State.setHost_events (s : State) (v : HostPort) :
    (s.setHost v).events = s.events := rfl
@[simp] theorem State.setHost_freeCount (s : State) (v : HostPort) :
    (s.setHost v).freeCount = s.freeCount := rfl
@[simp] theorem State.setHost_pending (s : State) (v : HostPort) :
    (s.setHost v).pending = s.pending := rfl
@[simp] theorem State.setHost_line (s : State) (v : HostPort) (y : LineId) :
    (s.setHost v).line y = s.line y := by cases y <;> rfl
@[simp] theorem State.setHost_desc (s : State) (v : HostPort) (j : Fin 64) :
    (s.setHost v).desc j = s.desc j := rfl
@[simp] theorem State.setHost_dir (s : State) (v : HostPort) (j : Fin 8) :
    (s.setHost v).dir j = s.dir j := rfl
@[simp] theorem State.setHost_slot (s : State) (v : HostPort) (j : Fin 128) :
    (s.setHost v).slot j = s.slot j := rfl
@[simp] theorem State.setHost_node (s : State) (v : HostPort) (j : Fin 32) :
    (s.setHost v).node j = s.node j := rfl
@[simp] theorem State.setPort_inReset (s : State) (v : TablePort) :
    (s.setPort v).inReset = s.inReset := rfl
@[simp] theorem State.setPort_readData (s : State) (v : TablePort) :
    (s.setPort v).readData = s.readData := rfl
@[simp] theorem State.setPort_host (s : State) (v : TablePort) : (s.setPort v).host = s.host := rfl
@[simp] theorem State.setPort_port (s : State) (v : TablePort) : (s.setPort v).port = v := rfl
@[simp] theorem State.setPort_descriptors (s : State) (v : TablePort) :
    (s.setPort v).descriptors = s.descriptors := rfl
@[simp] theorem State.setPort_directory (s : State) (v : TablePort) :
    (s.setPort v).directory = s.directory := rfl
@[simp] theorem State.setPort_slots (s : State) (v : TablePort) :
    (s.setPort v).slots = s.slots := rfl
@[simp] theorem State.setPort_nodes (s : State) (v : TablePort) :
    (s.setPort v).nodes = s.nodes := rfl
@[simp] theorem State.setPort_lineA (s : State) (v : TablePort) :
    (s.setPort v).lineA = s.lineA := rfl
@[simp] theorem State.setPort_lineB (s : State) (v : TablePort) :
    (s.setPort v).lineB = s.lineB := rfl
@[simp] theorem State.setPort_events (s : State) (v : TablePort) :
    (s.setPort v).events = s.events := rfl
@[simp] theorem State.setPort_freeCount (s : State) (v : TablePort) :
    (s.setPort v).freeCount = s.freeCount := rfl
@[simp] theorem State.setPort_pending (s : State) (v : TablePort) :
    (s.setPort v).pending = s.pending := rfl
@[simp] theorem State.setPort_line (s : State) (v : TablePort) (y : LineId) :
    (s.setPort v).line y = s.line y := by cases y <;> rfl
@[simp] theorem State.setPort_desc (s : State) (v : TablePort) (j : Fin 64) :
    (s.setPort v).desc j = s.desc j := rfl
@[simp] theorem State.setPort_dir (s : State) (v : TablePort) (j : Fin 8) :
    (s.setPort v).dir j = s.dir j := rfl
@[simp] theorem State.setPort_slot (s : State) (v : TablePort) (j : Fin 128) :
    (s.setPort v).slot j = s.slot j := rfl
@[simp] theorem State.setPort_node (s : State) (v : TablePort) (j : Fin 32) :
    (s.setPort v).node j = s.node j := rfl
@[simp] theorem State.setPort_accepted (s : State) (v : TablePort) :
    (s.setPort v).accepted = s.accepted := rfl
@[simp] theorem State.setEvents_inReset (s : State) (v : EventUnit) :
    (s.setEvents v).inReset = s.inReset := rfl
@[simp] theorem State.setEvents_readData (s : State) (v : EventUnit) :
    (s.setEvents v).readData = s.readData := rfl
@[simp] theorem State.setEvents_host (s : State) (v : EventUnit) :
    (s.setEvents v).host = s.host := rfl
@[simp] theorem State.setEvents_port (s : State) (v : EventUnit) :
    (s.setEvents v).port = s.port := rfl
@[simp] theorem State.setEvents_descriptors (s : State) (v : EventUnit) :
    (s.setEvents v).descriptors = s.descriptors := rfl
@[simp] theorem State.setEvents_directory (s : State) (v : EventUnit) :
    (s.setEvents v).directory = s.directory := rfl
@[simp] theorem State.setEvents_slots (s : State) (v : EventUnit) :
    (s.setEvents v).slots = s.slots := rfl
@[simp] theorem State.setEvents_nodes (s : State) (v : EventUnit) :
    (s.setEvents v).nodes = s.nodes := rfl
@[simp] theorem State.setEvents_lineA (s : State) (v : EventUnit) :
    (s.setEvents v).lineA = s.lineA := rfl
@[simp] theorem State.setEvents_lineB (s : State) (v : EventUnit) :
    (s.setEvents v).lineB = s.lineB := rfl
@[simp] theorem State.setEvents_events (s : State) (v : EventUnit) :
    (s.setEvents v).events = v := rfl
@[simp] theorem State.setEvents_freeCount (s : State) (v : EventUnit) :
    (s.setEvents v).freeCount = s.freeCount := rfl
@[simp] theorem State.setEvents_pending (s : State) (v : EventUnit) :
    (s.setEvents v).pending = s.pending := rfl
@[simp] theorem State.setEvents_line (s : State) (v : EventUnit) (y : LineId) :
    (s.setEvents v).line y = s.line y := by cases y <;> rfl
@[simp] theorem State.setEvents_desc (s : State) (v : EventUnit) (j : Fin 64) :
    (s.setEvents v).desc j = s.desc j := rfl
@[simp] theorem State.setEvents_dir (s : State) (v : EventUnit) (j : Fin 8) :
    (s.setEvents v).dir j = s.dir j := rfl
@[simp] theorem State.setEvents_slot (s : State) (v : EventUnit) (j : Fin 128) :
    (s.setEvents v).slot j = s.slot j := rfl
@[simp] theorem State.setEvents_node (s : State) (v : EventUnit) (j : Fin 32) :
    (s.setEvents v).node j = s.node j := rfl
@[simp] theorem State.setEvents_accepted (s : State) (v : EventUnit) :
    (s.setEvents v).accepted = s.accepted := rfl
@[simp] theorem State.complete_inReset (s : State) (a : Answer) :
    (s.complete a).inReset = s.inReset := rfl
@[simp] theorem State.complete_readData (s : State) (a : Answer) :
    (s.complete a).readData = s.readData := rfl
@[simp] theorem State.complete_port (s : State) (a : Answer) : (s.complete a).port = s.port := rfl
@[simp] theorem State.complete_descriptors (s : State) (a : Answer) :
    (s.complete a).descriptors = s.descriptors := rfl
@[simp] theorem State.complete_directory (s : State) (a : Answer) :
    (s.complete a).directory = s.directory := rfl
@[simp] theorem State.complete_slots (s : State) (a : Answer) :
    (s.complete a).slots = s.slots := rfl
@[simp] theorem State.complete_nodes (s : State) (a : Answer) :
    (s.complete a).nodes = s.nodes := rfl
@[simp] theorem State.complete_lineA (s : State) (a : Answer) :
    (s.complete a).lineA = s.lineA := rfl
@[simp] theorem State.complete_lineB (s : State) (a : Answer) :
    (s.complete a).lineB = s.lineB := rfl
@[simp] theorem State.complete_events (s : State) (a : Answer) :
    (s.complete a).events = s.events := rfl
@[simp] theorem State.complete_freeCount (s : State) (a : Answer) :
    (s.complete a).freeCount = s.freeCount := rfl
@[simp] theorem State.complete_pending (s : State) (a : Answer) :
    (s.complete a).pending = s.pending := rfl
@[simp] theorem State.complete_line (s : State) (a : Answer) (y : LineId) :
    (s.complete a).line y = s.line y := by cases y <;> rfl
@[simp] theorem State.complete_desc (s : State) (a : Answer) (j : Fin 64) :
    (s.complete a).desc j = s.desc j := rfl
@[simp] theorem State.complete_dir (s : State) (a : Answer) (j : Fin 8) :
    (s.complete a).dir j = s.dir j := rfl
@[simp] theorem State.complete_slot (s : State) (a : Answer) (j : Fin 128) :
    (s.complete a).slot j = s.slot j := rfl
@[simp] theorem State.complete_node (s : State) (a : Answer) (j : Fin 32) :
    (s.complete a).node j = s.node j := rfl
@[simp] theorem State.completeFree_inReset (s : State) (r : Result) :
    (s.completeFree r).inReset = s.inReset := rfl
@[simp] theorem State.completeFree_readData (s : State) (r : Result) :
    (s.completeFree r).readData = s.readData := rfl
@[simp] theorem State.completeFree_port (s : State) (r : Result) :
    (s.completeFree r).port = s.port := rfl
@[simp] theorem State.completeFree_descriptors (s : State) (r : Result) :
    (s.completeFree r).descriptors = s.descriptors := rfl
@[simp] theorem State.completeFree_directory (s : State) (r : Result) :
    (s.completeFree r).directory = s.directory := rfl
@[simp] theorem State.completeFree_slots (s : State) (r : Result) :
    (s.completeFree r).slots = s.slots := rfl
@[simp] theorem State.completeFree_nodes (s : State) (r : Result) :
    (s.completeFree r).nodes = s.nodes := rfl
@[simp] theorem State.completeFree_lineA (s : State) (r : Result) :
    (s.completeFree r).lineA = s.lineA := rfl
@[simp] theorem State.completeFree_lineB (s : State) (r : Result) :
    (s.completeFree r).lineB = s.lineB := rfl
@[simp] theorem State.completeFree_events (s : State) (r : Result) :
    (s.completeFree r).events = s.events := rfl
@[simp] theorem State.completeFree_pending (s : State) (r : Result) :
    (s.completeFree r).pending = s.pending := rfl
@[simp] theorem State.completeFree_line (s : State) (r : Result) (y : LineId) :
    (s.completeFree r).line y = s.line y := by cases y <;> rfl
@[simp] theorem State.completeFree_desc (s : State) (r : Result) (j : Fin 64) :
    (s.completeFree r).desc j = s.desc j := rfl
@[simp] theorem State.completeFree_dir (s : State) (r : Result) (j : Fin 8) :
    (s.completeFree r).dir j = s.dir j := rfl
@[simp] theorem State.completeFree_slot (s : State) (r : Result) (j : Fin 128) :
    (s.completeFree r).slot j = s.slot j := rfl
@[simp] theorem State.completeFree_node (s : State) (r : Result) (j : Fin 32) :
    (s.completeFree r).node j = s.node j := rfl

/-! ## Posts -/

@[simp] theorem State.post_inReset (s : State) (p : Poster) (r : Post) :
    (s.post p r).inReset = s.inReset := rfl
@[simp] theorem State.post_readData (s : State) (p : Poster) (r : Post) :
    (s.post p r).readData = s.readData := rfl
@[simp] theorem State.post_host (s : State) (p : Poster) (r : Post) :
    (s.post p r).host = s.host := rfl
@[simp] theorem State.post_port (s : State) (p : Poster) (r : Post) :
    (s.post p r).port = s.port := rfl
@[simp] theorem State.post_descriptors (s : State) (p : Poster) (r : Post) :
    (s.post p r).descriptors = s.descriptors := rfl
@[simp] theorem State.post_directory (s : State) (p : Poster) (r : Post) :
    (s.post p r).directory = s.directory := rfl
@[simp] theorem State.post_slots (s : State) (p : Poster) (r : Post) :
    (s.post p r).slots = s.slots := rfl
@[simp] theorem State.post_nodes (s : State) (p : Poster) (r : Post) :
    (s.post p r).nodes = s.nodes := rfl
@[simp] theorem State.post_lineA (s : State) (p : Poster) (r : Post) :
    (s.post p r).lineA = s.lineA := rfl
@[simp] theorem State.post_lineB (s : State) (p : Poster) (r : Post) :
    (s.post p r).lineB = s.lineB := rfl
@[simp] theorem State.post_freeCount (s : State) (p : Poster) (r : Post) :
    (s.post p r).freeCount = s.freeCount := rfl
@[simp] theorem State.post_pending (s : State) (p : Poster) (r : Post) :
    (s.post p r).pending = s.pending := rfl
@[simp] theorem State.post_line (s : State) (p : Poster) (r : Post) (y : LineId) :
    (s.post p r).line y = s.line y := by cases y <;> rfl
@[simp] theorem State.post_desc (s : State) (p : Poster) (r : Post) (j : Fin 64) :
    (s.post p r).desc j = s.desc j := rfl
@[simp] theorem State.post_dir (s : State) (p : Poster) (r : Post) (j : Fin 8) :
    (s.post p r).dir j = s.dir j := rfl
@[simp] theorem State.post_slot (s : State) (p : Poster) (r : Post) (j : Fin 128) :
    (s.post p r).slot j = s.slot j := rfl
@[simp] theorem State.post_node (s : State) (p : Poster) (r : Post) (j : Fin 32) :
    (s.post p r).node j = s.node j := rfl
@[simp] theorem EventUnit.setPath_queue (e : EventUnit) (p : Poster) (posts : List Post) :
    (e.setPath p posts).queue = e.queue := by
  rcases p with (_ | _) | _ | _ | _ <;> rfl
@[simp] theorem EventUnit.setPath_gap (e : EventUnit) (p : Poster) (posts : List Post) :
    (e.setPath p posts).gap = e.gap := by
  rcases p with (_ | _) | _ | _ | _ <;> rfl
@[simp] theorem EventUnit.setPath_kindMask (e : EventUnit) (p : Poster) (posts : List Post) :
    (e.setPath p posts).kindMask = e.kindMask := by
  rcases p with (_ | _) | _ | _ | _ <;> rfl
@[simp] theorem EventUnit.setPath_intEnable (e : EventUnit) (p : Poster) (posts : List Post) :
    (e.setPath p posts).intEnable = e.intEnable := by
  rcases p with (_ | _) | _ | _ | _ <;> rfl
@[simp] theorem EventUnit.setPath_holds (e : EventUnit) (p : Poster) (posts : List Post) :
    (e.setPath p posts).holds = e.holds := by
  rcases p with (_ | _) | _ | _ | _ <;> rfl
@[simp] theorem EventUnit.setPath_path_same (e : EventUnit) (p : Poster) (posts : List Post) :
    (e.setPath p posts).path p = posts := by
  rcases p with (_ | _) | _ | _ | _ <;> rfl
theorem EventUnit.setPath_path (e : EventUnit) (p q : Poster) (posts : List Post) :
    (e.setPath p posts).path q = if q = p then posts else e.path q := by
  rcases p with (_ | _) | _ | _ | _ <;> rcases q with (_ | _) | _ | _ | _ <;> rfl
@[simp] theorem State.post_events_queue (s : State) (p : Poster) (r : Post) :
    (s.post p r).events.queue = s.events.queue := by
  simp [State.post]
@[simp] theorem State.post_events_gap (s : State) (p : Poster) (r : Post) :
    (s.post p r).events.gap = s.events.gap := by
  simp [State.post]
@[simp] theorem State.post_events_kindMask (s : State) (p : Poster) (r : Post) :
    (s.post p r).events.kindMask = s.events.kindMask := by
  simp [State.post]
@[simp] theorem State.post_events_intEnable (s : State) (p : Poster) (r : Post) :
    (s.post p r).events.intEnable = s.events.intEnable := by
  simp [State.post]
@[simp] theorem State.post_events_holds (s : State) (p : Poster) (r : Post) :
    (s.post p r).events.holds = s.events.holds := by
  simp [State.post]
theorem State.post_path (s : State) (p q : Poster) (r : Post) :
    (s.post p r).events.path q = if q = p then s.events.path p ++ [r] else s.events.path q := by
  simp [State.post, EventUnit.setPath_path]
@[simp] theorem State.posted_inReset (s : State) (p : Poster) (records : List Post) :
    (s.posted p records).inReset = s.inReset := rfl
@[simp] theorem State.posted_readData (s : State) (p : Poster) (records : List Post) :
    (s.posted p records).readData = s.readData := rfl
@[simp] theorem State.posted_host (s : State) (p : Poster) (records : List Post) :
    (s.posted p records).host = s.host := rfl
@[simp] theorem State.posted_port (s : State) (p : Poster) (records : List Post) :
    (s.posted p records).port = s.port := rfl
@[simp] theorem State.posted_descriptors (s : State) (p : Poster) (records : List Post) :
    (s.posted p records).descriptors = s.descriptors := rfl
@[simp] theorem State.posted_directory (s : State) (p : Poster) (records : List Post) :
    (s.posted p records).directory = s.directory := rfl
@[simp] theorem State.posted_slots (s : State) (p : Poster) (records : List Post) :
    (s.posted p records).slots = s.slots := rfl
@[simp] theorem State.posted_nodes (s : State) (p : Poster) (records : List Post) :
    (s.posted p records).nodes = s.nodes := rfl
@[simp] theorem State.posted_lineA (s : State) (p : Poster) (records : List Post) :
    (s.posted p records).lineA = s.lineA := rfl
@[simp] theorem State.posted_lineB (s : State) (p : Poster) (records : List Post) :
    (s.posted p records).lineB = s.lineB := rfl
@[simp] theorem State.posted_freeCount (s : State) (p : Poster) (records : List Post) :
    (s.posted p records).freeCount = s.freeCount := rfl
@[simp] theorem State.posted_pending (s : State) (p : Poster) (records : List Post) :
    (s.posted p records).pending = s.pending := rfl
@[simp] theorem State.posted_line (s : State) (p : Poster) (records : List Post) (y : LineId) :
    (s.posted p records).line y = s.line y := by cases y <;> rfl

/-! ## A line's clock -/

@[simp] theorem LineController.reach_settings (l : LineController) (n : Nat) :
    (l.reach n).settings = l.settings := rfl
@[simp] theorem LineController.reach_lineState (l : LineController) (n : Nat) :
    (l.reach n).lineState = l.lineState := rfl
@[simp] theorem LineController.reach_active (l : LineController) (n : Nat) :
    (l.reach n).active = l.active := rfl
@[simp] theorem LineController.reach_pending (l : LineController) (n : Nat) :
    (l.reach n).pending = l.pending := rfl
@[simp] theorem LineController.reach_slotIndex (l : LineController) (n : Nat) :
    (l.reach n).slotIndex = l.slotIndex := rfl
@[simp] theorem LineController.reach_cycleCount (l : LineController) (n : Nat) :
    (l.reach n).cycleCount = l.cycleCount := rfl
@[simp] theorem LineController.reach_stopRequest (l : LineController) (n : Nat) :
    (l.reach n).stopRequest = l.stopRequest := rfl
@[simp] theorem LineController.reach_holdFlag (l : LineController) (n : Nat) :
    (l.reach n).holdFlag = l.holdFlag := rfl
@[simp] theorem LineController.reach_pinAsserted (l : LineController) (n : Nat) :
    (l.reach n).pinAsserted = l.pinAsserted := rfl
@[simp] theorem LineController.reach_lastSample (l : LineController) (n : Nat) :
    (l.reach n).lastSample = l.lastSample := rfl
@[simp] theorem LineController.reach_previousSample (l : LineController) (n : Nat) :
    (l.reach n).previousSample = l.previousSample := rfl
@[simp] theorem LineController.reach_slotStart (l : LineController) (n : Nat) :
    (l.reach n).slotStart = l.slotStart := rfl
@[simp] theorem LineController.reach_hushOk (l : LineController) (n : Nat) :
    (l.reach n).hushOk = l.hushOk := rfl
@[simp] theorem LineController.reach_queue (l : LineController) (n : Nat) :
    (l.reach n).queue = l.queue := rfl
@[simp] theorem LineController.reach_inFlight (l : LineController) (n : Nat) :
    (l.reach n).inFlight = l.inFlight := rfl
@[simp] theorem LineController.reach_monitor (l : LineController) (n : Nat) :
    (l.reach n).monitor = l.monitor := rfl
@[simp] theorem LineController.reach_bitsJudged (l : LineController) (n : Nat) :
    (l.reach n).bitsJudged = l.bitsJudged := rfl
@[simp] theorem LineController.reach_bitsSampled (l : LineController) (n : Nat) :
    (l.reach n).bitsSampled = l.bitsSampled := rfl
@[simp] theorem LineController.reach_time (l : LineController) (n : Nat) :
    (l.reach n).time = max l.time (l.slotStart.getD l.time + n) := rfl
@[simp] theorem LineController.countPulse_settings (l : LineController) :
    l.countPulse.settings = l.settings := by
  unfold LineController.countPulse; split <;> rfl
@[simp] theorem LineController.countPulse_lineState (l : LineController) :
    l.countPulse.lineState = l.lineState := by
  unfold LineController.countPulse; split <;> rfl
@[simp] theorem LineController.countPulse_active (l : LineController) :
    l.countPulse.active = l.active := by
  unfold LineController.countPulse; split <;> rfl
@[simp] theorem LineController.countPulse_pending (l : LineController) :
    l.countPulse.pending = l.pending := by
  unfold LineController.countPulse; split <;> rfl
@[simp] theorem LineController.countPulse_slotIndex (l : LineController) :
    l.countPulse.slotIndex = l.slotIndex := by
  unfold LineController.countPulse; split <;> rfl
@[simp] theorem LineController.countPulse_cycleCount (l : LineController) :
    l.countPulse.cycleCount = l.cycleCount := by
  unfold LineController.countPulse; split <;> rfl
@[simp] theorem LineController.countPulse_stopRequest (l : LineController) :
    l.countPulse.stopRequest = l.stopRequest := by
  unfold LineController.countPulse; split <;> rfl
@[simp] theorem LineController.countPulse_holdFlag (l : LineController) :
    l.countPulse.holdFlag = l.holdFlag := by
  unfold LineController.countPulse; split <;> rfl
@[simp] theorem LineController.countPulse_pinAsserted (l : LineController) :
    l.countPulse.pinAsserted = l.pinAsserted := by
  unfold LineController.countPulse; split <;> rfl
@[simp] theorem LineController.countPulse_lastSample (l : LineController) :
    l.countPulse.lastSample = l.lastSample := by
  unfold LineController.countPulse; split <;> rfl
@[simp] theorem LineController.countPulse_previousSample (l : LineController) :
    l.countPulse.previousSample = l.previousSample := by
  unfold LineController.countPulse; split <;> rfl
@[simp] theorem LineController.countPulse_slotStart (l : LineController) :
    l.countPulse.slotStart = l.slotStart := by
  unfold LineController.countPulse; split <;> rfl
@[simp] theorem LineController.countPulse_hushOk (l : LineController) :
    l.countPulse.hushOk = l.hushOk := by
  unfold LineController.countPulse; split <;> rfl
@[simp] theorem LineController.countPulse_queue (l : LineController) :
    l.countPulse.queue = l.queue := by
  unfold LineController.countPulse; split <;> rfl
@[simp] theorem LineController.countPulse_inFlight (l : LineController) :
    l.countPulse.inFlight = l.inFlight := by
  unfold LineController.countPulse; split <;> rfl
@[simp] theorem LineController.countPulse_bitsJudged (l : LineController) :
    l.countPulse.bitsJudged = l.bitsJudged := by
  unfold LineController.countPulse; split <;> rfl
@[simp] theorem LineController.countPulse_bitsSampled (l : LineController) :
    l.countPulse.bitsSampled = l.bitsSampled := by
  unfold LineController.countPulse; split <;> rfl
@[simp] theorem LineController.countPulse_time (l : LineController) :
    l.countPulse.time = l.time := by
  unfold LineController.countPulse; split <;> rfl
@[simp] theorem LineController.countPulse_seq (l : LineController) :
    l.countPulse.seq = l.seq := by
  unfold LineController.countPulse; split <;> rfl
theorem Sequencer.atTime_eq (st : LineSettings) (n : Nat) (q : Sequencer) :
    q.atTime st n =
      { q with bitPosition := (q.atTime st n).bitPosition, charCount := (q.atTime st n).charCount } := by
  obtain ⟨frameState, _⟩ := q
  cases frameState <;> rfl
@[simp] theorem LineController.reach_seq_frameState (l : LineController) (n : Nat) :
    (l.reach n).seq.frameState = l.seq.frameState := by
  show (Sequencer.atTime _ _ _).frameState = _; rw [Sequencer.atTime_eq]
@[simp] theorem LineController.reach_seq_source (l : LineController) (n : Nat) :
    (l.reach n).seq.source = l.seq.source := by
  show (Sequencer.atTime _ _ _).source = _; rw [Sequencer.atTime_eq]
@[simp] theorem LineController.reach_seq_descriptor (l : LineController) (n : Nat) :
    (l.reach n).seq.descriptor = l.seq.descriptor := by
  show (Sequencer.atTime _ _ _).descriptor = _; rw [Sequencer.atTime_eq]
@[simp] theorem LineController.reach_seq_kind (l : LineController) (n : Nat) :
    (l.reach n).seq.kind = l.seq.kind := by
  show (Sequencer.atTime _ _ _).kind = _; rw [Sequencer.atTime_eq]
@[simp] theorem LineController.reach_seq_length (l : LineController) (n : Nat) :
    (l.reach n).seq.length = l.seq.length := by
  show (Sequencer.atTime _ _ _).length = _; rw [Sequencer.atTime_eq]
@[simp] theorem LineController.reach_seq_txBuffer (l : LineController) (n : Nat) :
    (l.reach n).seq.txBuffer = l.seq.txBuffer := by
  show (Sequencer.atTime _ _ _).txBuffer = _; rw [Sequencer.atTime_eq]
@[simp] theorem LineController.reach_seq_rxBuffer (l : LineController) (n : Nat) :
    (l.reach n).seq.rxBuffer = l.seq.rxBuffer := by
  show (Sequencer.atTime _ _ _).rxBuffer = _; rw [Sequencer.atTime_eq]
@[simp] theorem LineController.reach_seq_runningCheck (l : LineController) (n : Nat) :
    (l.reach n).seq.runningCheck = l.seq.runningCheck := by
  show (Sequencer.atTime _ _ _).runningCheck = _; rw [Sequencer.atTime_eq]
@[simp] theorem LineController.reach_seq_controlEnd (l : LineController) (n : Nat) :
    (l.reach n).seq.controlEnd = l.seq.controlEnd := by
  show (Sequencer.atTime _ _ _).controlEnd = _; rw [Sequencer.atTime_eq]
@[simp] theorem LineController.reach_seq_supplyRequest (l : LineController) (n : Nat) :
    (l.reach n).seq.supplyRequest = l.seq.supplyRequest := by
  show (Sequencer.atTime _ _ _).supplyRequest = _; rw [Sequencer.atTime_eq]
@[simp] theorem LineController.reach_seq_startEdge (l : LineController) (n : Nat) :
    (l.reach n).seq.startEdge = l.seq.startEdge := by
  show (Sequencer.atTime _ _ _).startEdge = _; rw [Sequencer.atTime_eq]
@[simp] theorem LineController.reach_seq_lastCharEnd (l : LineController) (n : Nat) :
    (l.reach n).seq.lastCharEnd = l.seq.lastCharEnd := by
  show (Sequencer.atTime _ _ _).lastCharEnd = _; rw [Sequencer.atTime_eq]
@[simp] theorem LineController.reach_seq_pushStart (l : LineController) (n : Nat) :
    (l.reach n).seq.pushStart = l.seq.pushStart := by
  show (Sequencer.atTime _ _ _).pushStart = _; rw [Sequencer.atTime_eq]
@[simp] theorem LineController.reach_seq_lookAgain (l : LineController) (n : Nat) :
    (l.reach n).seq.lookAgain = l.seq.lookAgain := by
  show (Sequencer.atTime _ _ _).lookAgain = _; rw [Sequencer.atTime_eq]
/-- The sequencer of a line whose clock has moved stands as the new instant has it. -/
theorem LineController.reach_seq (l : LineController) (n : Nat) :
    (l.reach n).seq = l.seq.atTime l.settings (l.reach n).elapsed := rfl
/-- The pulse count that the clock gives: W less the whole bit times elapsed, in the PULSE phase alone. -/
theorem LineController.countPulse_pulseCount (l : LineController) :
    l.countPulse.monitor.pulseCount =
      if l.monitor.wakePhase = .pulse then
        l.settings.wakePulse - l.elapsed / l.settings.divisor
      else l.monitor.pulseCount := by
  unfold LineController.countPulse; split <;> rfl
theorem LineController.reach_idle (l : LineController) (n : Nat) (h : l.seq.frameState = .idle) :
    l.reach n = { l with time := max l.time (l.slotStart.getD l.time + n) } := by
  simp [LineController.reach, LineController.advanceTo, LineController.instant, Sequencer.atTime, h]

end Sys2Proof.Machine
end

