-- ==== Sys2Proof/Laws/LineWork.lean ====
section
/-! SUPPORT. What the work of one line can do, said once: `LineWork` is the frame of every operation of a
line's sequencer, monitor and runner, and of the frame reports they deliver; one lemma for each shared
operation. -/

namespace Sys2Proof.Machine

/-- The frame of one line's work: the host side, the schedule store, every configuration, every settings
record, the other line and the queue stand; each path can only have grown at its end. -/
structure State.LineWork (x : LineId) (s t : State) : Prop where
  inReset     : t.inReset = s.inReset
  readData    : t.readData = s.readData
  host        : t.host = s.host
  port        : t.port = s.port
  directory   : t.directory = s.directory
  slots       : t.slots = s.slots
  freeCount   : t.freeCount = s.freeCount
  pending     : t.pending = s.pending
  other       : ∀ y, y ≠ x → t.line y = s.line y
  settings    : (t.line x).settings = (s.line x).settings
  configs     : ∀ d, (t.desc d).config = (s.desc d).config
  nodeConfigs : ∀ n, (t.node n).config = (s.node n).config
  queue       : t.events.queue = s.events.queue
  gap         : t.events.gap = s.events.gap
  kindMask    : t.events.kindMask = s.events.kindMask
  intEnable   : t.events.intEnable = s.events.intEnable
  holds       : t.events.holds = s.events.holds
  paths       : ∀ p, ∃ more, t.events.path p = s.events.path p ++ more

theorem State.LineWork.refl (x : LineId) (s : State) : State.LineWork x s s :=
  ⟨rfl, rfl, rfl, rfl, rfl, rfl, rfl, rfl, fun _ _ => rfl, rfl, fun _ => rfl, fun _ => rfl, rfl, rfl,
    rfl, rfl, rfl, fun _ => ⟨[], by simp⟩⟩

theorem State.LineWork.trans {x : LineId} {s t u : State} (h : State.LineWork x s t)
    (k : State.LineWork x t u) : State.LineWork x s u where
  inReset := k.inReset.trans h.inReset
  readData := k.readData.trans h.readData
  host := k.host.trans h.host
  port := k.port.trans h.port
  directory := k.directory.trans h.directory
  slots := k.slots.trans h.slots
  freeCount := k.freeCount.trans h.freeCount
  pending := k.pending.trans h.pending
  other y hy := (k.other y hy).trans (h.other y hy)
  settings := k.settings.trans h.settings
  configs d := (k.configs d).trans (h.configs d)
  nodeConfigs n := (k.nodeConfigs n).trans (h.nodeConfigs n)
  queue := k.queue.trans h.queue
  gap := k.gap.trans h.gap
  kindMask := k.kindMask.trans h.kindMask
  intEnable := k.intEnable.trans h.intEnable
  holds := k.holds.trans h.holds
  paths p := by
    obtain ⟨a, ha⟩ := h.paths p
    obtain ⟨b, hb⟩ := k.paths p
    exact ⟨a ++ b, by rw [hb, ha, List.append_assoc]⟩

/-! ## The setters and the posts -/

theorem State.lineWork_setLine (s : State) (x : LineId) (l : LineController)
    (h : l.settings = (s.line x).settings) : State.LineWork x s (s.setLine x l) where
  inReset := by simp
  readData := by simp
  host := by simp
  port := by simp
  directory := by simp
  slots := by simp
  freeCount := by simp
  pending := by simp
  other _ hy := State.setLine_line_other s l hy
  settings := by simp [h]
  configs := by simp
  nodeConfigs := by simp
  queue := by simp
  gap := by simp
  kindMask := by simp
  intEnable := by simp
  holds := by simp
  paths _ := ⟨[], by simp⟩

theorem State.lineWork_setSeq (s : State) (x : LineId) (q : Sequencer) :
    State.LineWork x s (s.setSeq x q) := State.lineWork_setLine s x _ (by rfl)

theorem State.lineWork_setMonitor (s : State) (x : LineId) (m : Monitor) :
    State.LineWork x s (s.setMonitor x m) := State.lineWork_setLine s x _ (by rfl)

theorem State.lineWork_reach (s : State) (x : LineId) (n : Nat) :
    State.LineWork x s (s.reach x n) := State.lineWork_setLine s x _ (by simp)

theorem State.lineWork_setDesc (s : State) (x : LineId) (d : Fin 64) (v : Descriptor)
    (h : v.config = (s.desc d).config) : State.LineWork x s (s.setDesc d v) :=
  { State.LineWork.refl x s with
    other := fun _ _ => by simp
    settings := by simp
    configs := fun e => by rw [State.setDesc_desc]; split <;> simp_all }

theorem State.lineWork_setAdhoc (s : State) (x : LineId) (d : Fin 64) (v : AdhocView) :
    State.LineWork x s (s.setAdhoc d v) := State.lineWork_setDesc s x d _ (by rfl)

theorem State.lineWork_setNode (s : State) (x : LineId) (n : Fin 32) (v : Node)
    (h : v.config = (s.node n).config) : State.LineWork x s (s.setNode n v) :=
  { State.LineWork.refl x s with
    other := fun _ _ => by simp
    settings := by simp
    nodeConfigs := fun e => by rw [State.setNode_node]; split <;> simp_all }

theorem State.lineWork_post (s : State) (x : LineId) (p : Poster) (r : Post) :
    State.LineWork x s (s.post p r) :=
  { State.LineWork.refl x s with
    other := fun _ _ => by simp
    settings := by simp
    queue := by simp
    gap := by simp
    kindMask := by simp
    intEnable := by simp
    holds := by simp
    paths := fun q => by
      rw [State.post_path]
      split
      · next h => exact ⟨[r], by rw [h]⟩
      · exact ⟨[], by simp⟩ }

theorem State.lineWork_postLine (s : State) (x y : LineId) (k : EventKind) (i d : Byte) :
    State.LineWork x s (s.postLine y k i d) := State.lineWork_post s x _ _

theorem State.lineWork_postLineChange (s : State) (x y : LineId) (i : Byte) (c : Cause) :
    State.LineWork x s (s.postLineChange y i c) := State.lineWork_post s x _ _

/-! ## Frames -/

theorem State.lineWork_startFrame (s : State) (x : LineId) (source : FrameSource) (d : Fin 64) :
    State.LineWork x s (s.startFrame x source d) := State.lineWork_setSeq s x _

theorem State.lineWork_startHush (s : State) (x : LineId) : State.LineWork x s (s.startHush x) :=
  State.lineWork_setSeq s x _

theorem Descriptor.report_config (v : Descriptor) (r : FrameReport) (e : Bool) :
    (v.report r e).config = v.config := by
  unfold Descriptor.report; split <;> rfl

theorem Node.report_config (n : Node) (o : FrameOutcome) : (n.report o).config = n.config := by
  cases o <;> rfl

theorem State.lineWork_postFrame (s : State) (x : LineId) (d : Fin 64) (r : FrameReport) :
    State.LineWork x s (s.postFrame d r) := by
  unfold State.postFrame
  split
  · exact State.lineWork_post s x _ _
  · exact .refl x s

theorem State.lineWork_tableReport (s : State) (x : LineId) (d : Fin 64) (r : FrameReport) :
    State.LineWork x s (s.tableReport d r) := by
  unfold State.tableReport
  have h := State.lineWork_setDesc s x d _
    (Descriptor.report_config (s.desc d) r (s.nodeErratic (s.desc d)))
  split
  · exact h.trans (State.lineWork_postFrame _ x d r)
  · exact h

theorem State.lineWork_nodeReport (s : State) (x : LineId) (n : Fin 32) (r : FrameReport) :
    State.LineWork x s (s.nodeReport n r) := by
  unfold State.nodeReport
  have h := State.lineWork_setNode s x n _ (Node.report_config (s.node n) r.outcome)
  dsimp only
  split
  · exact h.trans (State.lineWork_post _ x _ _)
  · exact h

theorem State.lineWork_monitorReport (s : State) (x : LineId) (d : Fin 64) (r : FrameReport) :
    State.LineWork x s (s.monitorReport d r) := by
  unfold State.monitorReport
  split
  · split
    · exact .refl x s
    · exact State.lineWork_nodeReport s x _ r
  · exact .refl x s

theorem State.lineWork_endAdhoc (s : State) (x : LineId) (d : Fin 64) (o : FrameOutcome) :
    State.LineWork x s (s.endAdhoc x d o) :=
  ((State.lineWork_setLine s x _ (by rfl)).trans (State.lineWork_setAdhoc _ x d _)).trans
    (State.lineWork_postLine _ x _ _ _ _)

theorem State.lineWork_endHush (s : State) (x : LineId) (o : FrameOutcome) :
    State.LineWork x s (s.endHush x o) := by
  unfold State.endHush
  split
  · exact State.lineWork_setLine s x _ (by rfl)
  · exact State.lineWork_postLine s x _ _ _ _

theorem State.lineWork_deliver (s : State) (r : FrameReport) :
    State.LineWork r.line s (s.deliver r) := by
  unfold State.deliver
  split
  · next d _ =>
    have h := (State.lineWork_tableReport s r.line d r).trans
      (State.lineWork_monitorReport _ r.line d r)
    dsimp only
    split
    · exact h.trans (State.lineWork_endAdhoc _ _ _ _)
    · exact h
  · exact State.lineWork_endHush s _ _

/-- What the end of a frame can do: the line's own work. -/
theorem State.lineWork_endFrame (s : State) (x : LineId) (o : FrameOutcome) (reply : List Byte) :
    State.LineWork x s (s.endFrame x o reply) := by
  unfold State.endFrame
  split
  · exact .refl x s
  · have h := State.lineWork_setSeq s x (s.line x).seq.ended
    dsimp only
    split
    · next r hr =>
      have hx : r.line = x := by
        unfold State.frameReport at hr
        dsimp only at hr
        split at hr
        · cases hr; rfl
        · cases hr
      exact h.trans (hx ▸ State.lineWork_deliver _ r)
    · exact h

/-! ## Slots and cycles -/

theorem State.lineWork_serve (x : LineId) (slotLength : Nat) (queue : List (Fin 64)) (s : State) :
    State.LineWork x s (s.serve x slotLength queue) := by
  induction queue generalizing s with
  | nil => exact State.lineWork_setLine s x _ (by rfl)
  | cons d rest ih =>
    unfold State.serve
    dsimp only
    split
    · exact ((State.lineWork_setLine s x _ (by rfl)).trans (State.lineWork_setAdhoc _ x d _)).trans
        (State.lineWork_startFrame _ x _ d)
    · exact (((State.lineWork_setLine s x _ (by rfl)).trans (State.lineWork_setAdhoc _ x d _)).trans
        (State.lineWork_postLine _ x _ _ _ _)).trans (ih _)

theorem State.lineWork_slotWork (s : State) (x : LineId) (i : Fin 128) :
    State.LineWork x s (s.slotWork x i) := by
  unfold State.slotWork
  dsimp only
  split
  · exact .refl x s
  · exact .refl x s
  · split
    · exact State.lineWork_startFrame s x _ _
    · exact .refl x s
  · exact State.lineWork_postLine s x _ _ _ _
  · exact State.lineWork_serve x _ _ s
  · exact State.lineWork_startHush s x

/-- What a slot start can do: the line's own work. -/
theorem State.lineWork_beginSlot (s : State) (x : LineId) (t : Nat) :
    State.LineWork x s (s.beginSlot x t) := by
  unfold State.beginSlot
  have h : State.LineWork x s (s.setLine x { (s.line x).setOrigin t with hushOk := false }) :=
    State.lineWork_setLine s x _ (by rfl)
  dsimp only
  split
  · exact h
  · split
    · exact h.trans (State.lineWork_slotWork _ x _)
    · exact h

theorem State.lineWork_goOff (s : State) (x : LineId) (c : Cause) :
    State.LineWork x s (s.goOff x c) :=
  (State.lineWork_setLine s x _ (by rfl)).trans (State.lineWork_postLineChange _ x _ _ _)

theorem State.lineWork_takeSchedule (s : State) (x : LineId) (k : Fin 8) :
    State.LineWork x s (s.takeSchedule x k) :=
  (State.lineWork_setLine s x _ (by rfl)).trans (State.lineWork_postLine _ x _ _ _ _)

theorem State.lineWork_changeSchedule (s : State) (x : LineId) (f : Bool) :
    State.LineWork x s (s.changeSchedule x f) := by
  unfold State.changeSchedule
  split
  · exact (State.lineWork_setLine s x _ (by rfl)).trans (State.lineWork_takeSchedule _ x _)
  · split
    · exact .refl x s
    · split
      · split
        · exact State.lineWork_takeSchedule s x _
        · exact .refl x s
      · exact .refl x s

theorem State.lineWork_goHeld (s : State) (x : LineId) (position : Nat) :
    State.LineWork x s (s.goHeld x position) :=
  (State.lineWork_setLine s x _ (by rfl)).trans (State.lineWork_postLineChange _ x _ _ _)

theorem State.lineWork_goRunning (s : State) (x : LineId) (c : Cause) :
    State.LineWork x s (s.goRunning x c) :=
  (State.lineWork_setLine s x _ (by rfl)).trans (State.lineWork_postLineChange _ x _ _ _)

theorem State.lineWork_beginCycle (s : State) (x : LineId) (t : Nat) (c : Cause) :
    State.LineWork x s (s.beginCycle x t c) := by
  unfold State.beginCycle
  have h : State.LineWork x s (s.setLine x { s.line x with slotIndex := 0 }) :=
    State.lineWork_setLine s x _ (by rfl)
  dsimp only
  split
  · exact h.trans (State.lineWork_beginSlot _ x t)
  · exact (h.trans (State.lineWork_goRunning _ x c)).trans (State.lineWork_beginSlot _ x t)

/-- What cycle-boundary processing can do: the line's own work. -/
theorem State.lineWork_boundary (s : State) (x : LineId) (t : Nat) (f : Bool) (c : Cause) :
    State.LineWork x s (s.boundary x t f c) := by
  unfold State.boundary
  split
  · exact State.lineWork_goOff s x _
  · have h := State.lineWork_changeSchedule s x f
    dsimp only
    split
    · exact h.trans (State.lineWork_goHeld _ x _)
    · exact h.trans (State.lineWork_beginCycle _ x _ _)

theorem State.lineWork_countCycle (s : State) (x : LineId) : State.LineWork x s (s.countCycle x) :=
  State.lineWork_setLine s x _ (by rfl)

theorem State.lineWork_release (s : State) (x : LineId) : State.LineWork x s (s.release x) := by
  unfold State.release
  dsimp only
  split
  · exact State.lineWork_boundary s x _ _ _
  · exact (State.lineWork_goRunning s x _).trans (State.lineWork_beginSlot _ x _)

theorem State.lineWork_holdChanged (s : State) (x : LineId) (b : Bool) :
    State.LineWork x s (s.holdChanged x b) := by
  unfold State.holdChanged
  split
  · exact State.lineWork_release s x
  · exact .refl x s

theorem State.lineWork_setHoldFlag (s : State) (x : LineId) (v : Bool) :
    State.LineWork x s (s.setHoldFlag x v) :=
  (State.lineWork_setLine s x _ (by rfl)).trans (State.lineWork_holdChanged _ x _)

theorem State.lineWork_goAsleep (s : State) (x : LineId) : State.LineWork x s (s.goAsleep x) :=
  (State.lineWork_setLine s x _ (by rfl)).trans (State.lineWork_postLineChange _ x _ _ _)

theorem State.lineWork_endSlot (s : State) (x : LineId) (k : Fin 8) (t : Nat) :
    State.LineWork x s (s.endSlot x k t) := by
  unfold State.endSlot
  dsimp only
  split
  · exact State.lineWork_goAsleep s x
  · split
    · exact (State.lineWork_countCycle s x).trans (State.lineWork_boundary _ x _ _ _)
    · split
      · exact State.lineWork_goHeld s x _
      · exact (State.lineWork_setLine s x _ (by rfl)).trans (State.lineWork_beginSlot _ x _)

theorem State.lineWork_goWaking (s : State) (x : LineId) (m : Monitor) (c : Cause) :
    State.LineWork x s (s.goWaking x m c) :=
  (State.lineWork_setLine s x _ (by rfl)).trans (State.lineWork_postLineChange _ x _ _ _)

theorem State.lineWork_enterFault (s : State) (x : LineId) : State.LineWork x s (s.enterFault x) :=
  (State.lineWork_setLine s x _ (by rfl)).trans (State.lineWork_postLineChange _ x _ _ _)

theorem State.lineWork_startLine (s : State) (x : LineId) (k : Fin 8) :
    State.LineWork x s (s.startLine x k) :=
  (((State.lineWork_setLine s x _ (by rfl)).trans (State.lineWork_takeSchedule _ x k)).trans
    (State.lineWork_goRunning _ x _)).trans (State.lineWork_beginSlot _ x _)

/-! ## The events of a line -/

theorem State.lineWork_slotEnds (s : State) (x : LineId) : State.LineWork x s (s.slotEnds x) := by
  unfold State.slotEnds
  dsimp only
  split
  · split
    · exact (State.lineWork_reach s x _).trans (State.lineWork_endSlot _ x _ _)
    · exact .refl x s
  · exact .refl x s

theorem State.lineWork_samplePin (s : State) (x : LineId) (v : PinLevel) :
    State.LineWork x s (s.samplePin x v) := by
  unfold State.samplePin
  dsimp only
  split
  · exact .refl x s
  · exact State.lineWork_setLine s x _ (by simp)

theorem State.lineWork_levelChanges (s : State) (x : LineId) :
    State.LineWork x s (s.levelChanges x) := by
  unfold State.levelChanges
  dsimp only
  split
  · exact (State.lineWork_setLine s x _ (by rfl)).trans (State.lineWork_holdChanged _ x _)
  · exact .refl x s

theorem State.lineWork_alertEnds (s : State) (x : LineId) : State.LineWork x s (s.alertEnds x) := by
  unfold State.alertEnds
  dsimp only
  split
  · exact (State.lineWork_reach s x _).trans (State.lineWork_setSeq _ x _)
  · exact .refl x s

theorem State.lineWork_markEnds (s : State) (x : LineId) : State.LineWork x s (s.markEnds x) := by
  unfold State.markEnds
  dsimp only
  split
  · exact (State.lineWork_reach s x _).trans (State.lineWork_setSeq _ x _)
  · exact .refl x s

theorem State.lineWork_stepCounter (s : State) (x : LineId) (d : Option (Fin 64)) :
    State.LineWork x s (s.stepCounter d) := by
  cases d with
  | none => exact .refl x s
  | some d => exact State.lineWork_setDesc s x d _ (by rfl)

theorem State.lineWork_controlEnds (s : State) (x : LineId) :
    State.LineWork x s (s.controlEnds x) := by
  unfold State.controlEnds
  dsimp only
  split
  · have h := fun q d => ((State.lineWork_reach s x
      (headerTime (s.line x).settings * (s.line x).settings.divisor)).trans
      (State.lineWork_setSeq _ x q)).trans (State.lineWork_stepCounter _ x d)
    split
    · exact (h _ _).trans (State.lineWork_postLine _ x _ _ _ _)
    · exact h _ _
  · exact .refl x s

theorem State.lineWork_compareBit (s : State) (x : LineId) (bit : Nat) (samples : Samples) :
    State.LineWork x s (s.compareBit x bit samples) := by
  unfold State.compareBit
  dsimp only
  split
  · split
    · exact State.lineWork_reach s x _
    · exact (State.lineWork_reach s x _).trans (State.lineWork_endFrame _ x _ _)
  · exact .refl x s

theorem State.lineWork_judgeStart (s : State) (x : LineId) (edge deadline : Nat) (samples : Samples)
    (late : FrameOutcome) : State.LineWork x s (s.judgeStart x edge deadline samples late) := by
  unfold State.judgeStart
  dsimp only
  split
  · exact (State.lineWork_reach s x _).trans (State.lineWork_setSeq _ x _)
  · split
    · exact (State.lineWork_reach s x _).trans (State.lineWork_endFrame _ x _ _)
    · exact (State.lineWork_reach s x _).trans (State.lineWork_setSeq _ x _)

theorem State.lineWork_startBit (s : State) (x : LineId) (edge : Nat) (samples : Samples) :
    State.LineWork x s (s.startBit x edge samples) := by
  unfold State.startBit
  dsimp only
  split
  · split
    · exact State.lineWork_judgeStart s x _ _ _ _
    · exact State.lineWork_judgeStart s x _ _ _ _
  · exact .refl x s

theorem State.lineWork_character (s : State) (x : LineId) (bits : BitVec 9) :
    State.LineWork x s (s.character x bits) := by
  unfold State.character
  dsimp only
  split
  · split
    · exact (State.lineWork_reach s x _).trans (State.lineWork_setSeq _ x _)
    · exact (State.lineWork_reach s x _).trans (State.lineWork_endFrame _ x _ _)
  · exact .refl x s

theorem State.lineWork_replySpaceEnds (s : State) (x : LineId) :
    State.LineWork x s (s.replySpaceEnds x) := by
  unfold State.replySpaceEnds
  dsimp only
  split
  · exact (State.lineWork_reach s x _).trans (State.lineWork_endFrame _ x _ _)
  · exact .refl x s

theorem State.lineWork_replyGapEnds (s : State) (x : LineId) :
    State.LineWork x s (s.replyGapEnds x) := by
  unfold State.replyGapEnds
  dsimp only
  split
  · exact (State.lineWork_reach s x _).trans (State.lineWork_endFrame _ x _ _)
  · exact .refl x s

theorem State.lineWork_compareCheck (s : State) (x : LineId) :
    State.LineWork x s (s.compareCheck x) := by
  unfold State.compareCheck
  dsimp only
  split
  · split
    · exact (State.lineWork_reach s x _).trans (State.lineWork_endFrame _ x _ _)
    · exact (State.lineWork_reach s x _).trans (State.lineWork_endFrame _ x _ _)
  · exact .refl x s

theorem State.lineWork_windowEnds (s : State) (x : LineId) :
    State.LineWork x s (s.windowEnds x) := by
  unfold State.windowEnds
  dsimp only
  split
  · exact (State.lineWork_reach s x _).trans (State.lineWork_endFrame _ x _ _)
  · exact .refl x s

theorem State.lineWork_pushSpaceEnds (s : State) (x : LineId) :
    State.LineWork x s (s.pushSpaceEnds x) := by
  unfold State.pushSpaceEnds
  dsimp only
  split
  · exact (State.lineWork_reach s x _).trans (State.lineWork_setSeq _ x _)
  · exact .refl x s

theorem State.lineWork_pushEnds (s : State) (x : LineId) : State.LineWork x s (s.pushEnds x) := by
  unfold State.pushEnds
  dsimp only
  split
  · exact (State.lineWork_reach s x _).trans (State.lineWork_endFrame _ x _ _)
  · exact .refl x s

theorem State.lineWork_judgeBit (s : State) (x : LineId) (samples : Samples) :
    State.LineWork x s (s.judgeBit x samples) := by
  unfold State.judgeBit
  dsimp only
  split
  · exact State.lineWork_setLine s x _ (by simp)
  · exact .refl x s

theorem State.lineWork_reportStuck (s : State) (x : LineId) :
    State.LineWork x s (s.reportStuck x) := by
  unfold State.reportStuck
  dsimp only
  split
  · split
    · exact State.lineWork_setMonitor s x _
    · exact ((State.lineWork_setMonitor s x _).trans (State.lineWork_endFrame _ x _ _)).trans
        (State.lineWork_enterFault _ x)
  · exact .refl x s

theorem State.lineWork_wakeRemotely (s : State) (x : LineId) :
    State.LineWork x s (s.wakeRemotely x) := by
  unfold State.wakeRemotely
  dsimp only
  split
  · exact State.lineWork_goWaking s x _ _
  · exact .refl x s

theorem State.lineWork_pulseEnds (s : State) (x : LineId) :
    State.LineWork x s (s.pulseEnds x) := by
  unfold State.pulseEnds
  dsimp only
  split
  · exact (State.lineWork_reach s x _).trans (State.lineWork_setMonitor _ x _)
  · exact .refl x s

theorem State.lineWork_recoveryEnds (s : State) (x : LineId) :
    State.LineWork x s (s.recoveryEnds x) := by
  unfold State.recoveryEnds
  dsimp only
  split
  · exact (((State.lineWork_reach s x _).trans (State.lineWork_setMonitor _ x _)).trans
      (State.lineWork_countCycle _ x)).trans (State.lineWork_boundary _ x _ _ _)
  · exact .refl x s

end Sys2Proof.Machine
end

