-- ==== Sys2Proof/Laws/Runner.lean ====
section
/-! SUPPORT. What each state change of the runner does, said once: as the new controller of the line and the
records that it posts, in order; cycle-boundary processing and the release of a HELD line as the effects that
Safety.lean names. -/

namespace Sys2Proof.Machine

/-! ## Posts in a row -/

theorem State.post_eq_posted (s : State) (p : Poster) (r : Post) : s.post p r = s.posted p [r] := rfl

theorem State.posted_nil (s : State) (p : Poster) : s.posted p [] = s := by
  cases p with
  | lineController x => cases x <;> simp [State.posted, EventUnit.setPath, EventUnit.path, State.setEvents]
  | _ => simp [State.posted, EventUnit.setPath, EventUnit.path, State.setEvents]

theorem State.posted_posted (s : State) (p : Poster) (a b : List Post) :
    (s.posted p a).posted p b = s.posted p (a ++ b) := by
  cases p with
  | lineController x => cases x <;> simp [State.posted, EventUnit.setPath, EventUnit.path, State.setEvents]
  | _ => simp [State.posted, EventUnit.setPath, EventUnit.path, State.setEvents]

theorem State.posted_setLine (s : State) (p : Poster) (a : List Post) (x : LineId)
    (l : LineController) : (s.posted p a).setLine x l = (s.setLine x l).posted p a := by
  cases x <;> rfl

@[simp] theorem State.posted_desc (s : State) (p : Poster) (a : List Post) (d : Fin 64) :
    (s.posted p a).desc d = s.desc d := rfl
@[simp] theorem State.posted_dir (s : State) (p : Poster) (a : List Post) (k : Fin 8) :
    (s.posted p a).dir k = s.dir k := rfl
@[simp] theorem State.posted_slot (s : State) (p : Poster) (a : List Post) (i : Fin 128) :
    (s.posted p a).slot i = s.slot i := rfl
@[simp] theorem State.posted_node (s : State) (p : Poster) (a : List Post) (n : Fin 32) :
    (s.posted p a).node n = s.node n := rfl

theorem State.posted_path (s : State) (p q : Poster) (a : List Post) :
    (s.posted p a).events.path q = if q = p then s.events.path p ++ a else s.events.path q := by
  simp [State.posted, EventUnit.setPath_path]

/-- The event unit apart from its five paths is as it was. -/
theorem State.posted_queue (s : State) (p : Poster) (a : List Post) :
    (s.posted p a).events.queue = s.events.queue ∧ (s.posted p a).events.gap = s.events.gap ∧
      (s.posted p a).events.kindMask = s.events.kindMask ∧
      (s.posted p a).events.intEnable = s.events.intEnable ∧
      (s.posted p a).events.holds = s.events.holds := by
  simp [State.posted]

theorem State.postLine_eq (s : State) (x : LineId) (kind : EventKind) (index detail : Byte) :
    s.postLine x kind index detail = s.posted (.lineController x)
      [{ kind := kind, line := some x, index := index, detail := detail,
         stamp := (s.line x).cycleCount }] := rfl

theorem State.postLineChange_eq (s : State) (x : LineId) (index : Byte) (cause : Cause) :
    s.postLineChange x index cause = s.posted (.lineController x)
      [lineChangeRecord x (s.line x).lineState cause index (s.line x).cycleCount] := rfl

/-! ## State changes -/

theorem State.goOff_eq (s : State) (x : LineId) (cause : Cause) :
    s.goOff x cause = (s.setLine x (s.line x).wentOff).posted (.lineController x)
      [lineChangeRecord x .off cause 0xFF (s.line x).cycleCount] := by
  simp [State.goOff, State.postLineChange_eq, LineController.wentOff]

theorem State.takeSchedule_eq (s : State) (x : LineId) (k : Fin 8) :
    s.takeSchedule x k =
      (s.setLine x { s.line x with active := some k, cycleCount := 0 }).posted (.lineController x)
        [scheduleTakenRecord x k (s.line x).active] := by
  simp [State.takeSchedule, State.postLine_eq, scheduleTakenRecord]

theorem State.goHeld_eq (s : State) (x : LineId) (position : Nat) :
    s.goHeld x position =
      (s.setLine x { s.line x with lineState := .held, slotIndex := position }).posted
        (.lineController x)
        [lineChangeRecord x .held .hold (s.slotNumber (s.line x).active position)
          (s.line x).cycleCount] := by
  have h : ∀ l : LineController, (s.setLine x l).slotNumber = s.slotNumber := fun l => by
    cases x <;> rfl
  simp only [State.goHeld, State.postLineChange_eq, State.setLine_line_same]
  congr 2
  simp only [State.positionCode, State.slotNumber, State.currentSlot, State.setLine_line_same,
    State.slotAt, State.setLine_dir]
  cases (s.line x).active <;> rfl

theorem State.goRunning_eq (s : State) (x : LineId) (cause : Cause) :
    s.goRunning x cause =
      (s.setLine x { s.line x with lineState := .running }).posted (.lineController x)
        [lineChangeRecord x .running cause 0xFF (s.line x).cycleCount] := by
  simp [State.goRunning, State.postLineChange_eq]

theorem State.goAsleep_eq (s : State) (x : LineId) :
    s.goAsleep x =
      (s.setLine x { s.line x with lineState := .asleep, slotIndex := 0, hushOk := false }).posted
        (.lineController x) [lineChangeRecord x .asleep .hush 0xFF (s.line x).cycleCount] := by
  simp [State.goAsleep, State.postLineChange_eq]

theorem State.goWaking_eq (s : State) (x : LineId) (m : Monitor) (cause : Cause) :
    s.goWaking x m cause =
      (s.setLine x { s.line x with lineState := .waking, monitor := m }).posted (.lineController x)
        [lineChangeRecord x .waking cause 0xFF (s.line x).cycleCount] := by
  simp [State.goWaking, State.postLineChange_eq]

theorem State.enterFault_eq (s : State) (x : LineId) :
    s.enterFault x =
      (s.setLine x
        { s.line x with
          lineState := .fault, slotIndex := 0, hushOk := false,
          monitor := { (s.line x).monitor with wakePhase := .none, qualifyCount := none,
                                               pulseCount := 0 } }).posted
        (.lineController x) [lineChangeRecord x .fault .stuck 0xFF (s.line x).cycleCount] := by
  simp [State.enterFault, State.postLineChange_eq]

/-! ## Cycle boundaries -/

/-- The schedule that steps 2 and 3 take, if they take one. -/
def State.scheduleTaken (s : State) (x : LineId) (followOns : Bool) : Option (Fin 8) :=
  (s.line x).pending.or
    (if followOns then (s.line x).active.bind (fun k => (s.dir k).followOn) else none)

theorem State.changeSchedule_eq (s : State) (x : LineId) (followOns : Bool) :
    s.changeSchedule x followOns =
      (s.setLine x
        { s.line x with
          active := (s.scheduleTaken x followOns).or (s.line x).active, pending := none,
          cycleCount :=
            if (s.scheduleTaken x followOns).isSome then 0 else (s.line x).cycleCount }).posted
        (.lineController x)
        ((s.scheduleTaken x followOns).map
          (fun k => scheduleTakenRecord x k (s.line x).active)).toList := by
  have kept : ∀ a p, (s.line x).active = a → (s.line x).pending = p →
      s = s.setLine x { s.line x with active := a, pending := p } := by
    rintro _ _ rfl rfl
    exact (State.setLine_line_self s x).symm
  have taken : ∀ (l : LineController) p, (s.line x).pending = p →
      { l with pending := (s.line x).pending } = { l with pending := p } := by
    rintro l _ rfl
    rfl
  unfold State.changeSchedule State.scheduleTaken
  cases hp : (s.line x).pending with
  | some k => simp [State.takeSchedule_eq]
  | none =>
    cases ha : (s.line x).active with
    | none => simp [State.posted_nil]; exact kept _ _ ha hp
    | some k =>
      cases hf : (s.dir k).followOn with
      | none => simp [State.posted_nil, hf]; exact kept _ _ ha hp
      | some j =>
        cases followOns with
        | false => simp [State.posted_nil, hf]; exact kept _ _ ha hp
        | true =>
          simp only [State.takeSchedule_eq, if_true, Option.bind_some, hf, Option.none_or,
            Option.map_some, Option.toList_some, Option.isSome_some, Option.some_or, ha]
          rw [taken { s.line x with active := some j, cycleCount := 0 } none hp]

theorem State.boundary_effect (s : State) (x : LineId) (t : Nat) (followOns : Bool) (cause : Cause) :
    State.BoundaryEffect x t followOns cause s (s.boundary x t followOns cause) := by
  have slots : ∀ (l : LineController) a, (s.setLine x l).slotNumber a 0 = s.slotNumber a 0 :=
    fun l a => by simp [State.slotNumber, State.slotAt]
  have slots' : ∀ (u : State) r a,
      (u.posted (.lineController x) r).slotNumber a 0 = u.slotNumber a 0 := fun _ _ _ => rfl
  unfold State.BoundaryEffect State.boundary
  simp only [State.changeSchedule_eq, State.posted_line, State.setLine_line_same,
    Bool.or_eq_true, beq_iff_eq, Bool.and_eq_true]
  have hold : ∀ a p c, LineController.holdRequest
      { s.line x with active := a, pending := p, cycleCount := c } = (s.line x).holdRequest :=
    fun _ _ _ => rfl
  simp only [hold]
  by_cases stop : (s.line x).stopRequest = true ∨ (s.line x).lineState = .draining
  · simp only [stop, if_true, State.goOff_eq]
  · simp only [stop, if_false]
    by_cases held : ((s.line x).lineState = .running ∨ (s.line x).lineState = .waking) ∧
        (s.line x).holdRequest = true
    · simp only [held, and_self, if_true, State.goHeld_eq, State.posted_setLine,
        State.setLine_setLine, State.posted_line, State.setLine_line_same, State.posted_posted,
        slots, slots']
      rfl
    · simp only [held, if_false, State.beginCycle, State.posted_setLine, State.setLine_setLine,
        State.posted_line, State.setLine_line_same]
      by_cases running : (s.line x).lineState = .running
      · simp only [running, if_true]; rfl
      · simp only [running, if_false, State.goRunning_eq, State.posted_setLine,
          State.setLine_setLine, State.posted_line, State.setLine_line_same, State.posted_posted]
        rfl

theorem State.release_effect (s : State) (x : LineId) :
    State.ReleaseEffect x s (s.release x) := by
  unfold State.ReleaseEffect State.release
  dsimp only
  split
  · exact State.boundary_effect s x _ _ _
  · rw [State.goRunning_eq]

end Sys2Proof.Machine
end

