-- ==== Sys2Proof/Laws/FrameEnd.lean ====
section
/-! SUPPORT. The end of a frame, said once: `endFrame` on a descriptor's frame is `FrameEnded`, on a hush
frame `HushEnded`, and on an idle sequencer nothing; a line's clock moving first changes nothing of it. -/

namespace Sys2Proof.Machine

/-- The line with its clock and the sequencer's counts as they may stand at an instant. -/
def LineController.clocked (l : LineController) (time bits chars : Nat) : LineController :=
  { l with time := time, seq := { l.seq with bitPosition := bits, charCount := chars } }

theorem LineController.clocked_self (l : LineController) :
    l.clocked l.time l.seq.bitPosition l.seq.charCount = l := rfl

theorem LineController.reach_clocked (l : LineController) (n : Nat) :
    l.reach n = l.clocked (l.reach n).time (l.reach n).seq.bitPosition (l.reach n).seq.charCount := by
  have seq : (l.reach n).seq =
      { l.seq with bitPosition := (l.reach n).seq.bitPosition,
                   charCount := (l.reach n).seq.charCount } :=
    Sequencer.atTime_eq _ _ _
  unfold LineController.clocked
  rw [← seq]
  rfl

theorem byteAt_overlay {n : Nat} (bytes : List Byte) (buffer : Vector Byte n) (i : Nat) (h : i < n) :
    byteAt (overlay bytes buffer) i = if i < bytes.length then bytes.getD i 0 else byteAt buffer i := by
  have size : i < ((bytes ++ buffer.toList.drop bytes.length).take n).length := by simp; omega
  have cell : (overlay bytes buffer)[i]? = (bytes ++ buffer.toList.drop bytes.length)[i]? := by
    simp [overlay, h]
  unfold byteAt
  rw [cell]
  split
  · next hb => rw [List.getElem?_append_left hb, List.getD_eq_getElem?_getD]
  · next hb =>
    rw [List.getElem?_append_right (by omega), List.getElem?_drop]
    have : bytes.length + (i - bytes.length) = i := by omega
    rw [this]
    simp [h]

theorem State.endFrame_idle (s : State) (x : LineId) (o : FrameOutcome) (reply : List Byte)
    (h : (s.line x).seq.frameState = .idle) : s.endFrame x o reply = s := by
  simp [State.endFrame, h]

theorem State.endFrame_hush (s : State) (x : LineId) (o : FrameOutcome) (reply : List Byte)
    (time bits chars : Nat) (h : s.HushFrame x) :
    State.HushEnded x o s
      ((s.setLine x ((s.line x).clocked time bits chars)).endFrame x o reply) := by
  obtain ⟨busy, source, descriptor, kind⟩ := h
  have e : (s.setLine x ((s.line x).clocked time bits chars)).endFrame x o reply =
      (s.setLine x { ((s.line x).clocked time bits chars) with
        seq := ((s.line x).clocked time bits chars).seq.ended }).endHush x o := by
    simp [State.endFrame, State.frameReport, State.deliver, LineController.clocked, busy, source,
      descriptor, kind, State.setSeq]
  rw [e]
  unfold State.endHush
  split
  · next ok =>
    subst ok
    exact ⟨by simp [LineController.clocked], by
      constructor <;> simp [LineController.clocked, Sequencer.ended], by simp [State.posted_nil]⟩
  · next bad =>
    refine ⟨?_, ?_, ?_⟩
    · simp [State.postLine, bad, LineController.clocked]
    · constructor <;> simp [State.postLine, LineController.clocked, Sequencer.ended]
    · simp [State.postLine_eq, bad, LineController.clocked]

theorem State.nodeErratic_iff (s : State) (v : Descriptor) :
    s.nodeErratic v = decide (∃ n, v.config.node = some n ∧ (s.node n).state = .erratic) := by
  unfold State.nodeErratic
  cases h : v.config.node with
  | none => simp
  | some n => simp [beq_eq_decide]

/-- The state after the message table's part of a report: descriptor and records (R51 to R53). -/
theorem State.tableReport_eq (s : State) (x : LineId) (d : Fin 64) (source : FrameSource)
    (kind : FrameKind) (o : FrameOutcome) (reply : List Byte) (stamp : Count16) :
    let r : FrameReport :=
      { line := x, source := source, descriptor := some d, kind := kind, outcome := o,
        reply := reply, stamp := stamp }
    s.tableReport d r =
      (s.setDesc d ((s.desc d).report r (s.nodeErratic (s.desc d)))).posted .messageTable
        (if source.isScheduled && (s.desc d).config.notify.asks o then
          [{ kind := if o = .ok then .frameOk else .frameFail,
             line := some (s.desc d).config.line, index := BitVec.ofNat 8 d.val,
             detail := outcomeCode o, stamp := stamp }]
        else []) := by
  intro r
  unfold State.tableReport State.postFrame
  simp only [State.setDesc_desc_same, Descriptor.report_config]
  by_cases hs : source.isScheduled = true <;>
    by_cases hn : (s.desc d).config.notify.asks o = true <;>
    simp [r, hs, hn, State.posted_nil, State.post_eq_posted]

/-- The state after the node monitor's part of a report (R138 to R141). -/
theorem State.nodeReport_eq (s : State) (n : Fin 32) (r : FrameReport) :
    s.nodeReport n r =
      (s.setNode n ((s.node n).report r.outcome)).posted .nodeMonitor
        (if ((s.node n).report r.outcome).state ≠ (s.node n).state ∧
            (s.node n).config.notify = true then
          [{ kind := .nodeChange, line := some (s.node n).config.line, index := BitVec.ofNat 8 n.val,
             detail := nodeChangeDetail (s.node n).state ((s.node n).report r.outcome).state,
             stamp := r.stamp }]
        else []) := by
  unfold State.nodeReport
  simp only [Node.report_config]
  split <;> simp [State.posted_nil, State.post_eq_posted]

theorem State.monitorReport_eq (s : State) (d : Fin 64) (r : FrameReport) :
    s.monitorReport d r =
      match countedNode s d r.kind with
      | none => s
      | some n => s.nodeReport n r := by
  unfold State.monitorReport countedNode
  split <;> rfl

theorem State.endAdhoc_eq (s : State) (x : LineId) (d : Fin 64) (o : FrameOutcome) :
    s.endAdhoc x d o =
      ((s.setLine x { s.line x with inFlight := none }).setDesc d
        { s.desc d with adhoc := .none }).posted (.lineController x)
        [adhocEndRecord x d (outcomeCode o) (s.line x).cycleCount] := by
  simp [State.endAdhoc, State.postLine_eq, State.setAdhoc, adhocEndRecord]

theorem State.endFrame_eq (s : State) (x : LineId) (d : Fin 64) (source : FrameSource)
    (kind : FrameKind) (o : FrameOutcome) (reply : List Byte) (h : s.DescriptorFrame x d source kind) :
    s.endFrame x o reply =
      let r : FrameReport :=
        { line := x, source := source, descriptor := some d, kind := kind, outcome := o,
          reply := reply, stamp := (s.line x).cycleCount }
      let t := ((s.setSeq x (s.line x).seq.ended).tableReport d r).monitorReport d r
      if source = .adHoc then t.endAdhoc x d o else t := by
  obtain ⟨busy, hs, _, hd, hk⟩ := h
  simp [State.endFrame, State.frameReport, State.deliver, busy, hs, hd, hk]

theorem frameRecords_eq (s : State) (x : LineId) (d : Fin 64) (source : FrameSource)
    (o : FrameOutcome) :
    frameRecords s x d source o =
      if source.isScheduled && (s.desc d).config.notify.asks o then
          [{ kind := if o = .ok then .frameOk else .frameFail,
             line := some (s.desc d).config.line, index := BitVec.ofNat 8 d.val,
             detail := outcomeCode o, stamp := (s.line x).cycleCount }]
        else [] := by
  unfold frameRecords
  cases source <;> cases h : (s.desc d).config.notify <;>
    simp [FrameSource.isScheduled, Notify.asks]

/-- The state after the message table and the node monitor have taken a report. -/
def State.reported (s : State) (x : LineId) (d : Fin 64) (source : FrameSource)
    (kind : FrameKind) (o : FrameOutcome) (reply : List Byte) : State :=
  let r : FrameReport :=
    { line := x, source := source, descriptor := some d, kind := kind, outcome := o,
      reply := reply, stamp := (s.line x).cycleCount }
  (s.tableReport d r).monitorReport d r

theorem State.reported_eq (s : State) (x : LineId) (d : Fin 64) (source : FrameSource)
    (kind : FrameKind) (o : FrameOutcome) (reply : List Byte) :
    s.reported x d source kind o reply =
      let r : FrameReport :=
        { line := x, source := source, descriptor := some d, kind := kind, outcome := o,
          reply := reply, stamp := (s.line x).cycleCount }
      let t := (s.setDesc d ((s.desc d).report r (s.nodeErratic (s.desc d)))).posted .messageTable
        (frameRecords s x d source o)
      match countedNode s d kind with
      | none => t
      | some n => (t.setNode n ((s.node n).report o)).posted .nodeMonitor
          (nodeRecords s x n ((s.node n).report o).state) := by
  dsimp only
  rw [frameRecords_eq]
  have c : ∀ (t : State), (t.desc d).config = (s.desc d).config →
      countedNode t d kind = countedNode s d kind := by
    intro t ht; simp [countedNode, ht]
  simp only [State.reported, State.tableReport_eq, State.monitorReport_eq]
  rw [c _ (by simp [Descriptor.report_config])]
  cases hc : countedNode s d kind with
  | none => rfl
  | some n =>
    simp only [State.nodeReport_eq, nodeRecords, nodeChangeDetail, State.posted_node,
      State.setDesc_node]
    rfl

theorem State.reported_same (s : State) (x : LineId) (d : Fin 64) (source : FrameSource)
    (kind : FrameKind) (o : FrameOutcome) (reply : List Byte) :
    s.SameOutsideFrames (s.reported x d source kind o reply) := by
  rw [State.reported_eq]
  dsimp only
  split <;> constructor <;> simp [State.posted_queue]

@[simp] theorem State.reported_line (s : State) (x : LineId) (d : Fin 64) (source : FrameSource)
    (kind : FrameKind) (o : FrameOutcome) (reply : List Byte) (y : LineId) :
    (s.reported x d source kind o reply).line y = s.line y := by
  rw [State.reported_eq]
  dsimp only
  split <;> simp

theorem State.reported_desc (s : State) (x : LineId) (d : Fin 64) (source : FrameSource)
    (kind : FrameKind) (o : FrameOutcome) (reply : List Byte) (e : Fin 64) :
    (s.reported x d source kind o reply).desc e =
      if e = d then
        (s.desc d).report
          { line := x, source := source, descriptor := some d, kind := kind, outcome := o,
            reply := reply, stamp := (s.line x).cycleCount }
          (s.nodeErratic (s.desc d))
      else s.desc e := by
  rw [State.reported_eq]
  dsimp only
  split <;> simp [State.setDesc_desc, eq_comm]

theorem State.reported_node (s : State) (x : LineId) (d : Fin 64) (source : FrameSource)
    (kind : FrameKind) (o : FrameOutcome) (reply : List Byte) (n : Fin 32) :
    (s.reported x d source kind o reply).node n =
      if countedNode s d kind = some n then (s.node n).report o else s.node n := by
  rw [State.reported_eq]
  dsimp only
  split
  · next h => simp [h]
  · next m h =>
      by_cases e : m = n
      · subst e; simp [h]
      · simp [h, State.setNode_node, e]

theorem State.reported_path (s : State) (x : LineId) (d : Fin 64) (source : FrameSource)
    (kind : FrameKind) (o : FrameOutcome) (reply : List Byte) (p : Poster) :
    (s.reported x d source kind o reply).events.path p =
      s.events.path p ++ match p with
      | .messageTable => frameRecords s x d source o
      | .nodeMonitor => match countedNode s d kind with
        | none => []
        | some n => nodeRecords s x n ((s.node n).report o).state
      | _ => [] := by
  rw [State.reported_eq]
  dsimp only
  cases p <;> split <;> simp_all [State.posted_path]

/-- A descriptor after a report, field by field (R51, R52). -/
theorem Descriptor.report_eq (v : Descriptor) (s : State) (x : LineId) (source : FrameSource)
    (d : Fin 64) (kind : FrameKind) (o : FrameOutcome) (reply : List Byte) (stamp : Count16) :
    let after := v.report ⟨x, source, some d, kind, o, reply, stamp⟩ (s.nodeErratic v)
    after =
      { v with
        data := after.data, lastOutcome := some o, stamp := stamp,
        unread := v.unread || decide (kind = .poll ∧ o = .ok),
        overwritten := v.overwritten || (v.unread && decide (kind = .poll ∧ o = .ok)),
        suspect :=
          if kind = .poll ∧ o = .ok then
            decide (∃ n, v.config.node = some n ∧ (s.node n).state = .erratic)
          else v.suspect } := by
  rw [State.nodeErratic_iff]
  unfold Descriptor.report
  by_cases h : kind = .poll ∧ o = .ok <;> simp [h]

theorem Descriptor.report_data (v : Descriptor) (e : Bool) (x : LineId) (source : FrameSource)
    (d : Fin 64) (kind : FrameKind) (o : FrameOutcome) (reply : List Byte) (stamp : Count16) (i : Nat)
    (hi : i < 12) :
    byteAt (v.report ⟨x, source, some d, kind, o, reply, stamp⟩ e).data i =
      if kind = .poll ∧ o = .ok ∧ i < reply.length then reply.getD i 0 else byteAt v.data i := by
  unfold Descriptor.report
  by_cases h : kind = .poll ∧ o = .ok
  · simp [byteAt_overlay, hi, h]
  · rw [if_neg h, if_neg (by tauto)]

/-- The end of a descriptor's frame, whatever its line's clock shows. -/
theorem State.endFrame_ended (s : State) (x : LineId) (d : Fin 64) (source : FrameSource)
    (kind : FrameKind) (o : FrameOutcome) (reply : List Byte) (time bits chars : Nat)
    (h : s.DescriptorFrame x d source kind) :
    State.FrameEnded x d source kind o reply s
      ((s.setLine x ((s.line x).clocked time bits chars)).endFrame x o reply) := by
  have h' : (s.setLine x ((s.line x).clocked time bits chars)).DescriptorFrame x d source kind := by
    simpa [State.DescriptorFrame, LineController.clocked] using h
  rw [State.endFrame_eq _ x d source kind o reply h']
  simp only [State.setSeq, State.setLine_setLine, State.setLine_line_same]
  generalize hL : ({ (s.line x).clocked time bits chars with
    seq := ((s.line x).clocked time bits chars).seq.ended } : LineController) = L
  have hl : L = { s.line x with seq := L.seq, time := L.time } := by subst hL; rfl
  have cleared : (s.line x).seq.Cleared L.seq := by subst hL; constructor <;> rfl
  have count : L.cycleCount = (s.line x).cycleCount := by rw [hl]
  have stamp : ((s.line x).clocked time bits chars).cycleCount =
      ((s.setLine x L).line x).cycleCount := by simp only [State.setLine_line_same, count]; rfl
  rw [stamp]
  show State.FrameEnded x d source kind o reply s
    (if source = .adHoc then ((s.setLine x L).reported x d source kind o reply).endAdhoc x d o
     else (s.setLine x L).reported x d source kind o reply)
  have records : frameRecords (s.setLine x L) x d source o = frameRecords s x d source o := by
    simp [frameRecords_eq, count]
  have changes : ∀ n a, nodeRecords (s.setLine x L) x n a = nodeRecords s x n a := by
    simp [nodeRecords, count]
  have counted : countedNode (s.setLine x L) d kind = countedNode s d kind := by simp [countedNode]
  have erratic : (s.setLine x L).nodeErratic (s.desc d) = s.nodeErratic (s.desc d) := by
    simp [State.nodeErratic]
  have same := (s.setLine x L).reported_same x d source kind o reply
  by_cases ah : source = .adHoc
  · subst ah
    simp only [if_true]
    rw [State.endAdhoc_eq]
    constructor
    · constructor <;> simp [same.inReset, same.readData, same.host, same.port, same.directory,
        same.slots, same.queue, same.gap, same.kindMask, same.intEnable, same.holds, same.freeCount,
        same.pending, State.posted_queue]
    · intro y hy; simp [State.setLine_line, hy]
    · simp only [State.posted_line, State.setDesc_line, State.setLine_line_same,
        State.reported_line, if_true]
      conv_lhs => rw [hl]
    · simp; exact cleared
    · intro e he; simp [State.setDesc_desc, State.reported_desc, he, Ne.symm he]
    · simp only [State.posted_desc, State.setDesc_desc_same, State.reported_desc,
        State.setLine_desc, State.setLine_line_same, erratic, count, if_true]
      conv_lhs => rw [Descriptor.report_eq]
    · intro i hi; simp [State.reported_desc, erratic, count, Descriptor.report_data, hi]
    · intro n hn; simp [State.reported_node, counted, hn]
    · intro n hn; simp [State.reported_node, counted, hn]
    · show EventUnit.path _ .messageTable = _
      simp [State.posted_path, State.reported_path, records]; rfl
    · show EventUnit.path _ .nodeMonitor = _
      simp [State.posted_path, State.reported_path, counted, changes]; rfl
    · simp [State.posted_path, State.reported_path, count]
    · intro y hy; simp [State.posted_path, State.reported_path, hy]
    · show EventUnit.path _ .commandUnit = _
      simp [State.posted_path, State.reported_path]; rfl
  · simp only [ah, if_false]
    constructor
    · constructor <;> simp [same.inReset, same.readData, same.host, same.port, same.directory,
        same.slots, same.queue, same.gap, same.kindMask, same.intEnable, same.holds, same.freeCount,
        same.pending]
    · intro y hy; simp [State.setLine_line, hy]
    · simp only [State.reported_line, State.setLine_line_same, ah, if_false]
      conv_lhs => rw [hl]
    · simp; exact cleared
    · intro e he; simp [State.reported_desc, he]
    · simp only [State.reported_desc, State.setLine_desc, State.setLine_line_same, erratic, count, ah,
        if_true, if_false]
      conv_lhs => rw [Descriptor.report_eq]
    · intro i hi; simp [State.reported_desc, erratic, count, Descriptor.report_data, hi]
    · intro n hn; simp [State.reported_node, counted, hn]
    · intro n hn; simp [State.reported_node, counted, hn]
    · show EventUnit.path _ .messageTable = _
      simp [State.reported_path, records]; rfl
    · show EventUnit.path _ .nodeMonitor = _
      simp [State.reported_path, counted, changes]; rfl
    · simp [State.reported_path, ah]
    · intro y hy; simp [State.reported_path]
    · show EventUnit.path _ .commandUnit = _
      simp [State.reported_path]; rfl

/-- The end of a descriptor's frame on the clock as it stands. -/
theorem State.endFrame_ended_now (s : State) (x : LineId) (d : Fin 64) (source : FrameSource)
    (kind : FrameKind) (o : FrameOutcome) (reply : List Byte) (h : s.DescriptorFrame x d source kind) :
    State.FrameEnded x d source kind o reply s (s.endFrame x o reply) := by
  have e := State.endFrame_ended s x d source kind o reply
    (s.line x).time (s.line x).seq.bitPosition (s.line x).seq.charCount h
  rwa [LineController.clocked_self, State.setLine_line_self] at e

/-- The end of a descriptor's frame at an instant of its line. -/
theorem State.endFrame_ended_reach (s : State) (x : LineId) (d : Fin 64) (source : FrameSource)
    (kind : FrameKind) (o : FrameOutcome) (reply : List Byte) (n : Nat)
    (h : s.DescriptorFrame x d source kind) :
    State.FrameEnded x d source kind o reply s ((s.reach x n).endFrame x o reply) := by
  rw [State.reach, LineController.reach_clocked]
  exact State.endFrame_ended s x d source kind o reply _ _ _ h

/-- The end of a hush frame at an instant of its line. -/
theorem State.endFrame_hush_reach (s : State) (x : LineId) (o : FrameOutcome) (reply : List Byte)
    (n : Nat) (h : s.HushFrame x) : State.HushEnded x o s ((s.reach x n).endFrame x o reply) := by
  rw [State.reach, LineController.reach_clocked]
  exact State.endFrame_hush s x o reply _ _ _ h

/-- The end of a hush frame on the clock as it stands. -/
theorem State.endFrame_hush_now (s : State) (x : LineId) (o : FrameOutcome) (reply : List Byte)
    (h : s.HushFrame x) : State.HushEnded x o s (s.endFrame x o reply) := by
  have e := State.endFrame_hush s x o reply
    (s.line x).time (s.line x).seq.bitPosition (s.line x).seq.charCount h
  rwa [LineController.clocked_self, State.setLine_line_self] at e

@[simp] theorem State.tableReport_line (s : State) (d : Fin 64) (r : FrameReport) (y : LineId) :
    (s.tableReport d r).line y = s.line y := by
  unfold State.tableReport State.postFrame
  dsimp only
  split
  · split <;> simp
  · simp

@[simp] theorem State.monitorReport_line (s : State) (d : Fin 64) (r : FrameReport) (y : LineId) :
    (s.monitorReport d r).line y = s.line y := by
  rw [State.monitorReport_eq]
  split <;> simp [State.nodeReport_eq]

/-- What the end of a frame can change of its line: the sequencer, the in-flight request and the hush
outcome. -/
theorem State.endFrame_line (s : State) (x : LineId) (o : FrameOutcome) (reply : List Byte) :
    (s.endFrame x o reply).line x =
      { s.line x with
        seq := ((s.endFrame x o reply).line x).seq,
        inFlight := ((s.endFrame x o reply).line x).inFlight,
        hushOk := ((s.endFrame x o reply).line x).hushOk } := by
  unfold State.endFrame
  split
  · rfl
  · cases hs : (s.line x).seq.source with
    | none => simp [State.frameReport, hs]
    | some source =>
      cases hk : (s.line x).seq.kind with
      | none => simp [State.frameReport, hs, hk]
      | some kind =>
        simp only [State.frameReport, hs, hk, State.deliver]
        cases hd : (s.line x).seq.descriptor with
        | none =>
          simp only [State.endHush]
          split <;> simp [State.postLine]
        | some d =>
          dsimp only
          split <;> simp [State.endAdhoc_eq]

/-- The end of a frame leaves the line's clock. -/
theorem State.endFrame_time (s : State) (x : LineId) (o : FrameOutcome) (reply : List Byte) :
    ((s.endFrame x o reply).line x).time = (s.line x).time := by
  rw [State.endFrame_line]

end Sys2Proof.Machine
end

