-- ==== Sys2Proof/Laws/Windows.lean ====
section
/-! SUPPORT. The range checks of the table windows, said once: what `firstFailing` answers for a list of fields,
and that it is the first failure of the conditions the fields stand for. -/

namespace Sys2Proof.Machine

theorem firstFailing_none (fields : List (Nat × Bool)) :
    firstFailing fields = none ↔ ∀ f ∈ fields, f.2 = true := by
  induction fields with
  | nil => simp [firstFailing]
  | cons f rest ih => obtain ⟨o, p⟩ := f; cases p <;> simp [firstFailing, ih]

theorem firstFailing_append (before : List (Nat × Bool)) (offset : Nat) (after : List (Nat × Bool))
    (h : ∀ f ∈ before, f.2 = true) :
    firstFailing (before ++ (offset, false) :: after) = some (BitVec.ofNat 8 offset) := by
  induction before with
  | nil => simp [firstFailing]
  | cons f rest ih =>
    obtain ⟨o, p⟩ := f
    obtain rfl : p = true := h (o, p) (by simp)
    simpa [firstFailing] using ih (fun f hf => h f (by simp [hf]))

/-- A list of computed checks finds the first failure of the conditions that they decide, field by field. -/
theorem firstFailure_firstFailing {conditions : List (Byte × Prop)} {fields : List (Nat × Bool)}
    (h : List.Forall₂ (fun c f => c.1 = BitVec.ofNat 8 f.1 ∧ (c.2 ↔ f.2 = true)) conditions fields) :
    FirstFailure conditions (firstFailing fields) := by
  constructor
  · rw [firstFailing_none]
    induction h with
    | nil => simp
    | cons first _ ih => simp only [List.forall_mem_cons, first.2, ih]
  · rintro before c after rfl passed failed
    have front := List.forall₂_take before.length h
    have back := List.forall₂_drop before.length h
    rw [List.take_left] at front
    rw [List.drop_left] at back
    rw [← List.take_append_drop before.length fields]
    revert front back
    generalize fields.take before.length = taken
    generalize fields.drop before.length = left
    intro front back
    cases back with
    | @cons _ f _ rest first _ =>
      obtain ⟨o, p⟩ := f
      obtain rfl : p = false := by cases p <;> simp_all
      rw [firstFailing_append]
      · exact congrArg some first.1.symm
      · clear first h
        induction front with
        | nil => simp
        | cons first _ ih =>
          rw [List.forall_mem_cons] at passed ⊢
          exact ⟨first.2.1 passed.1, ih passed.2⟩

end Sys2Proof.Machine
end

