-- ==== Sys2Proof/Tests/Slice0.lean ====
section
/-! SUPPORT. Tests. The states are built from the example configuration that the spec's opening file gives;
each test's expected result is the spec's own worked example or table, named in its comment. The theorems
named `witness_…` show, for a statement with hypotheses, a concrete state and operands that meet them, at the
boundaries of each clause. -/

-- One theorem at a time: in parallel they hold more threads than the check's memory limit gives stacks for.
set_option Elab.async false

namespace Sys2Proof.Tests

open Sys2Proof Sys2Proof.Machine

/-! ## Well-formedness -/

theorem test_wf_refuses_own_rows :
    ∀ a ∈ ownRowAddresses, (Instr.registerWrite (BitVec.ofNat 5 a) 0).wf = false := by decide
theorem test_wf_takes_argument_registers :
    ∀ a ∈ [0x04, 0x05, 0x06, 0x07], (Instr.registerWrite (BitVec.ofNat 5 a) 0).wf = true := by decide
theorem test_wf_refuses_bit_beyond_every_run (x : LineId) (t : Samples) :
    (Instr.readback x 166 t).wf = false := rfl
theorem test_wf_takes_last_bit_of_longest_run (x : LineId) (t : Samples) :
    (Instr.readback x 165 t).wf = true := rfl
/-- The longest run that READBACK can compare: a push of 12 bytes with J = 3 (R5, R33). -/
theorem test_longest_run (q : Sequencer) :
    sentBits { LineSettings.initial with pushGap := 3 }
      { q with frameState := .push, length := some 12 } = longestSentRun := by
  simp [sentBits, longestSentRun]

/-! ## The example device -/

/-- A descriptor of the example configuration. -/
def message (x : LineId) (tag : BitVec 7) (dir : Direction) (sup : Supply) (length : Nat)
    (node : Option (Fin 32)) (notify : Notify) : Descriptor :=
  { Descriptor.initial with
    config := { inUse := true, line := x, tag := tag, direction := dir, length := length,
                supply := sup, node := node, notify := notify } }

/-- A node in use on line A (examples of chapter 8). -/
def station (miss probe : Nat) (st : NodeState) (misses score : Nat) : Node :=
  { config := { inUse := true, line := .a, missThreshold := miss, errorThreshold := 4,
                probeDivisor := probe, notify := true },
    state := st, misses := misses, score := score }

/-- A slot of divisor 1 and phase 0. -/
def every (kind : SlotKind) (length : Nat) (d : Fin 64) : Slot :=
  { kind := kind, length := length, divisor := 1, phase := 0, descriptor := d }

/-- The example configuration of the spec's opening file, with both nodes PRESENT. -/
def device : State :=
  let s := State.reset
  let s := s.setDesc 0 (message .a 0x10 .poll .stored 4 (some 0) .all)
  let s := s.setDesc 1 (message .a 0x11 .push .stored 2 (some 0) .all)
  let s := s.setDesc 2 (message .a 0x20 .poll .stored 8 (some 1) .fail)
  let s := s.setDesc 3 (message .a 0x21 .push .deferred 3 (some 1) .none)
  let s := s.setDesc 4 (message .b 0x10 .poll .stored 2 none .none)
  let s := s.setNode 0 (station 3 4 .present 0 0)
  let s := s.setNode 1 (station 2 1 .present 0 0)
  let s := s.setDir 0 { inUse := true, firstSlot := 0, slotCount := 4, followOn := none }
  let s := s.setDir 1 { inUse := true, firstSlot := 4, slotCount := 3, followOn := none }
  let s := s.setSlot 0 (every .regular 120 0)
  let s := s.setSlot 1 (every .regular 80 1)
  let s := s.setSlot 2 { every .regular 160 2 with divisor := 2 }
  let s := s.setSlot 3 (every .open 130 0)
  let s := s.setSlot 4 (every .mark 8 0)
  let s := s.setSlot 5 (every .regular 130 3)
  s.setSlot 6 (every .hush 64 0)

/-- The example device with line A changed. -/
def onLineA (f : LineController → LineController) : State := device.setLine .a (f device.lineA)

/-- A line in schedule 0 at a slot index, its slot begun at instant 1000. -/
def active (st : LineState) (index : Nat) (l : LineController) : LineController :=
  { l with lineState := st, active := some 0, slotIndex := index, slotStart := some 1000,
           time := 1000, monitor := { Monitor.off with active := true } }

/-- A frame in flight. -/
def inFlight (fs : FrameState) (source : FrameSource) (d : Option (Fin 64)) (kind : FrameKind)
    (length : Nat) : Sequencer :=
  { Sequencer.initial with
    frameState := fs, source := some source, descriptor := d, kind := some kind, length := some length }

/-- Line A running slot 0 with the poll of d0 in a frame state. -/
def polling (fs : FrameState) (f : Sequencer → Sequencer) : State :=
  onLineA fun l =>
    { active .running 0 l with seq := f (inFlight fs (.scheduled 0) (some 0) .poll 4) }

/-- Line A running slot 6 with the hush frame in a frame state. -/
def hushing (fs : FrameState) (f : Sequencer → Sequencer) : State :=
  onLineA fun l => { active .running 0 l with seq := f (inFlight fs .hush none .hush 1) }

/-- The command unit holds this command for its owner. -/
def ready (s : State) (code a0 a1 : Byte) : State :=
  s.setHost { s.host with busy := true, command := code, latch0 := a0, latch1 := a1 }

/-- The table port open on an entry with these bytes at the front of its buffer. -/
def openOn (s : State) (t : TableId) (i : Byte) (bytes : List Byte) : State :=
  s.setPort { isOpen := true, table := t, index := i, pointer := 0,
              buffer := overlay bytes (Vector.replicate 32 0) }

/-- The state a step leaves; the state itself where it gives none. -/
def after (c : Instr) (s : State) : State :=
  match exec c s with
  | .next t => t
  | _ => s

/-! ## The field line (worked examples of chapter 1) -/

/-- Chapter 2: the tag byte of d1 is 91h; R177: tag 10h has one one. -/
theorem test_tag_bytes : tagByte 0x11 = 0x91 ∧ tagByte 0x10 = 0x10 ∧ tagByte 127 = 0x7F := by decide
/-- Chapter 2: counter 5, L − 1 = 3, POLL is 1Dh; counter 3, L − 1 = 1, PUSH is 8Bh. -/
theorem test_control_bytes : controlByte .poll 4 5 = 0x1D ∧ controlByte .push 2 3 = 0x8B := by decide
/-- R9: the check of 7Fh, 80h, 00h is CAh. -/
theorem test_hush_check : crcFrom crcStart [0x7F, 0x80, 0x00] = 0xCA := by decide +kernel
/-- R9: a single 1 shifted out of bit 7 leaves the polynomial's low terms, 0010 1111 (x^5, x^3, x^2, x, 1). -/
theorem test_check_of_one : crcByte 0x00 0x01 = 0x2F := by decide +kernel
/-- Chapter 1, timing of the example configuration. -/
theorem test_frame_times :
    maxFrameTime .initial .poll 4 = 101 ∧ maxFrameTime .initial .storedPush 2 = 67 ∧
      maxFrameTime .initial .poll 8 = 149 ∧ maxFrameTime .initial .deferredPush 3 = 115 ∧
      maxFrameTime .initial .hush 1 = 57 := by decide
/-- Chapter 1: the least slot lengths that fit are 105, 71, 153, 119 and 61. -/
theorem test_least_slots :
    fits .initial .poll 4 105 ∧ ¬ fits .initial .poll 4 104 ∧ fits .initial .hush 1 61 ∧
      ¬ fits .initial .hush 1 60 ∧ fits .initial .deferredPush 3 119 ∧
      ¬ fits .initial .deferredPush 3 118 := by decide
/-- R4: 10h is sent start bit dominant, then four zeros, a one, three zeros, and the stop bit recessive. -/
theorem test_character_bits :
    (List.range 10).map (characterBit 0x10) =
      [.dominant, .dominant, .dominant, .dominant, .dominant, .recessive, .dominant, .dominant,
       .dominant, .recessive] := by decide

/-! ## The course of a frame (worked examples of chapter 2) -/

/-- The control character of d0's poll ends at 35 bit times and its frame counter steps. -/
theorem test_controlEnd_steps_counter :
    ((after (.controlEnd .a) (polling .header id)).desc 0).frameCounter = 1 ∧
      ((after (.controlEnd .a) (polling .header id)).line .a).time = 1000 + 35 * 208 ∧
      ((after (.controlEnd .a) (polling .header id)).line .a).seq.frameState = .replyWait := by
  decide +kernel
/-- Had the node not answered at all, the frame would have ended NO_REPLY at 41. -/
theorem test_no_reply_at_41 :
    let s := after (.replySpaceEnd .a) (polling .replyWait fun q => { q with controlEnd := some 35 })
    (s.desc 0).lastOutcome = some .noReply ∧ (s.line .a).time = 1000 + 41 * 208 ∧
      (s.node 0).misses = 1 ∧ (s.line .a).seq.frameState = .idle := by decide +kernel
/-- A first start edge at 41 with a recessive start bit ends the frame NO_REPLY at the third sample of that
bit, just after 41.5. -/
theorem test_late_recessive_start_bit :
    let s := after (.replyStartBit .a (41 * 208) ⟨.recessive, .recessive, .recessive⟩)
      (polling .replyWait fun q => { q with controlEnd := some 35 })
    (s.desc 0).lastOutcome = some .noReply ∧ (s.line .a).time = 1000 + 41 * 208 + 117 := by
  decide +kernel
/-- R25: an edge at 36 with a recessive start bit is disregarded; the receiver takes no edge up to the third
sample of that bit at 36 + 117/208, and, the wire being recessive there, one in the next REFCLK period. -/
theorem test_recessive_start_bit_looks_again :
    let s := after (.replyStartBit .a (36 * 208) ⟨.dominant, .recessive, .recessive⟩)
      (polling .replyWait fun q => { q with controlEnd := some 35 })
    let seen (edge : Nat) :=
      after (.replyStartBit .a edge ⟨.dominant, .dominant, .dominant⟩) s
    (s.line .a).seq.frameState = .replyWait ∧
      ((seen (36 * 208)).line .a).seq.frameState = .replyWait ∧
      ((seen (36 * 208 + 117)).line .a).seq.frameState = .replyWait ∧
      ((seen (36 * 208 + 118)).line .a).seq.startEdge = some (36 * 208 + 118) := by decide +kernel
/-- R4, R27: the same between characters, the third sample being dominant, so that the wire must first be seen
recessive. -/
theorem test_looks_again_once_recessive :
    let s := after (.replyStartBit .a (58 * 208) ⟨.recessive, .recessive, .dominant⟩)
      (polling .reply fun q => { q with charCount := 2, lastCharEnd := some (58 * 208) })
    let seen (edge : Nat) :=
      after (.replyStartBit .a edge ⟨.dominant, .dominant, .dominant⟩) s
    ((seen (58 * 208 + 118)).line .a).seq.startEdge = none ∧
      ((seen (58 * 208 + 119)).line .a).seq.startEdge = some (58 * 208 + 119) := by decide +kernel
/-- The reply gap of the second character ends at 60: SHORT_REPLY, a garbled reply of node 0. -/
theorem test_short_reply_at_60 :
    let s := after (.replyGapEnd .a)
      (polling .reply fun q => { q with charCount := 2, lastCharEnd := some (58 * 208) })
    (s.desc 0).lastOutcome = some .shortReply ∧ (s.line .a).time = 1000 + 60 * 208 ∧
      (s.node 0).score = 2 := by decide +kernel
/-- The third sample of bit 4 of data character 1 reads dominant where d1 sends a one: READBACK at 51.6. -/
theorem test_readback_collision :
    let s := after (.readback .a 14 ⟨.dominant, .dominant, .dominant⟩)
      (onLineA fun l =>
        { active .running 1 l with
          seq :=
            { inFlight .push (.scheduled 1) (some 1) .storedPush 2 with
              pushStart := some (37 * 208),
              txBuffer := overlay [0x91, 0x8B, 0x00, 0x08] Sequencer.initial.txBuffer } })
    (s.desc 1).lastOutcome = some .readback ∧ (s.line .a).time = 1000 + 51 * 208 + 117 ∧
      (s.line .a).pin = .recessive := by decide +kernel
/-- R33: the character count advances at the end of the first character, 10 bit times after PUSH began, and
not a REFCLK period before; R127: the pulse count falls from W = 8 at the end of the first bit time. -/
theorem test_counts_follow_the_clock :
    let push (t : Nat) := tick (onLineA fun l =>
      { active .running 1 l with
        time := t,
        seq := { inFlight .push (.scheduled 1) (some 1) .storedPush 2 with
                 pushStart := some (37 * 208) } })
    let pulse (t : Nat) := tick (onLineA fun l =>
      { active .waking 0 l with
        time := t, monitor := { Monitor.off with wakePhase := .pulse, pulseCount := 8 } })
    ((push (1000 + 47 * 208 - 2)).line .a).seq.charCount = 0 ∧
      ((push (1000 + 47 * 208 - 1)).line .a).seq.charCount = 1 ∧
      ((pulse (1000 + 208 - 2)).line .a).monitor.pulseCount = 8 ∧
      ((pulse (1000 + 208 - 1)).line .a).monitor.pulseCount = 7 := by decide +kernel
/-- R38, R123: a hush frame that ends OK keeps its outcome for the slot end and posts nothing. -/
theorem test_hush_ends_ok :
    let s := after (.pushEnd .a) (hushing .push fun q => { q with pushStart := some (37 * 208) })
    (s.line .a).hushOk = true ∧ (s.line .a).time = 1000 + 57 * 208 ∧ s.events.pathA = [] := by
  decide +kernel

/-! ## Slots and cycles (worked examples of chapters 4 and 5) -/

/-- START(A, 0): SCHEDULE_TAKEN with detail FFh, LINE_CHANGE RUNNING, and slot 0's poll begins. -/
theorem test_start_runs_slot_0 :
    let s := after .start (ready device 0x01 0x00 0x00)
    s.host.result = .done ∧ s.host.busy = false ∧
      s.events.pathA.map (fun r => (r.kind, r.index, r.detail)) =
        [(.scheduleTaken, 0x00, 0xFF), (.lineChange, 0xFF, 0x11)] ∧
      (s.line .a).seq.source = some (.scheduled 0) ∧ (s.line .a).seq.frameState = .alert := by
  decide +kernel
/-- The end of slot 3 ends cycle 0: the count advances to 1 and slot 0 begins at 490. -/
theorem test_cycle_ends_at_slot_3 :
    let s := after (.slotEnd .a)
      (onLineA fun l => { active .running 3 l with slotStart := some (1000 + 360 * 208) })
    (s.line .a).cycleCount = 1 ∧ (s.line .a).slotIndex = 0 ∧
      (s.line .a).slotStart = some (1000 + 490 * 208) ∧ s.events.pathA = [] := by decide +kernel
/-- Slot 2, of divisor 2 and phase 0, is silent in cycle 1. -/
theorem test_slot_2_silent_in_cycle_1 :
    ((after (.slotEnd .a) (onLineA fun l => { active .running 1 l with cycleCount := 1 })).line
      .a).seq.frameState = .idle := by decide +kernel
/-- Chapter 8: node 0 MISSING with probe divisor 4 silences slot 1 in cycle 22. -/
theorem test_probe_gating :
    ((after (.slotEnd .a)
      ((onLineA fun l => { active .running 0 l with cycleCount := 22 }).setNode 0
        (station 3 4 .missing 3 0))).line .a).seq.frameState = .idle := by decide +kernel
/-- R65: schedule 2 is not in use, so validation fails with 82h; schedule 0 passes for line A and fails for
line B at slot 0, whose descriptor is on line A. -/
theorem test_validation :
    device.validationFailure .a 0 = none ∧ device.validationFailure .a 2 = some 0x82 ∧
      device.validationFailure .b 0 = some 0x00 := by decide +kernel

/-! ## Ad-hoc requests and deferred push (worked example of chapter 6) -/

/-- Slot 3 with d2, d3 and d0 queued: d2 does not fit 130, d3 is served, d0 waits. -/
theorem test_open_slot_service :
    let s := after (.slotEnd .a)
      (onLineA fun l => { active .running 2 l with queue := [2, 3, 0], cycleCount := 5 })
    (s.line .a).queue = [0] ∧ (s.line .a).inFlight = some 3 ∧
      s.events.pathA = [⟨.adhocEnd, some .a, 0x02, 0x0A, 5⟩] ∧
      (s.desc 3).adhoc = .inFlight ∧ (s.line .a).seq.source = some .adHoc := by decide +kernel
/-- SUPPLY(A, 3) at 52 after the control end at 35: PUSH begins at once. -/
theorem test_supply_after_push_space :
    let s := after .supply
      (ready (onLineA fun l =>
        { active .running 3 l with
          time := 1000 + 52 * 208,
          seq := { inFlight .supplyWait .adHoc (some 3) .deferredPush 3 with
                   controlEnd := some 35, supplyRequest := some 3 } }) 0x10 0x00 0x03)
    s.host.result = .done ∧ (s.line .a).seq.frameState = .push ∧
      (s.line .a).seq.pushStart = some (52 * 208) := by decide +kernel
/-- A SUPPLY for d3 after LATE_DATA with stamp 5 is answered TOO_LATE with DETAIL 05h. -/
theorem test_supply_too_late :
    let s := after .supply
      (ready (device.setDesc 3 { device.desc 3 with lastOutcome := some .lateData, stamp := 5 })
        0x10 0x00 0x03)
    s.host.result = .tooLate ∧ s.host.detail = 0x05 := by decide +kernel

/-! ## Sleep, wake and fault (worked example of chapter 7) -/

/-- Line A in ASLEEP at bit time 300 of its base. -/
def sleeping (qualify : Option Nat) : State :=
  onLineA fun l =>
    { active .asleep 0 l with
      bitsJudged := 300,
      monitor := { Monitor.off with active := true, qualifyCount := qualify } }

/-- A bit time judged dominant in ASLEEP loads 4 and leaves 3; one judged recessive returns it to none. -/
theorem test_qualify_count :
    ((after (.bitTimeJudged .a ⟨.dominant, .dominant, .recessive⟩) (sleeping none)).line
        .a).monitor.qualifyCount = some 3 ∧
      ((after (.bitTimeJudged .a ⟨.recessive, .dominant, .recessive⟩) (sleeping (some 2))).line
        .a).monitor.qualifyCount = none := by decide +kernel
/-- The count that reaches 0 takes the line to WAKING in RECOVERY with LINE_CHANGE WAKING, REMOTE. -/
theorem test_remote_wake :
    let s := after (.remoteWake .a) (sleeping (some 0))
    (s.line .a).lineState = .waking ∧ (s.line .a).monitor.wakePhase = .recovery ∧
      s.events.pathA.map (·.detail) = [0x75] := by decide +kernel
/-- The end of recovery with schedule 0 pending: count 3, then 0; SCHEDULE_TAKEN, LINE_CHANGE RECOVERED. -/
theorem test_recovery_end :
    let s := after (.recoveryEnd .a)
      (onLineA fun l =>
        { active .waking 0 l with
          active := some 1, pending := some 0, cycleCount := 2, bitsJudged := 562,
          monitor := { Monitor.off with active := true, wakePhase := .recovery,
                                        recoveryCount := 40 } })
    (s.line .a).lineState = .running ∧ (s.line .a).cycleCount = 0 ∧
      (s.line .a).slotStart = some (1000 + 562 * 208) ∧
      s.events.pathA.map (fun r => (r.kind, r.index, r.detail, r.stamp)) =
        [(.scheduleTaken, 0x00, 0x01, 0), (.lineChange, 0xFF, 0x91, 0)] := by decide +kernel

/-! ## Nodes (worked examples of chapter 8) -/

/-- The third miss of node 0 takes it to MISSING. -/
theorem test_third_miss_is_missing :
    (station 3 4 .present 2 0).report .noReply = station 3 4 .missing 3 0 := by decide
/-- Node 1 of score 2 after FRAMING is ERRATIC with score 4, and stays ERRATIC at OK until the score is 0. -/
theorem test_erratic_and_back :
    (station 2 1 .present 0 2).report .framing = station 2 1 .erratic 0 4 ∧
      (station 2 1 .erratic 0 4).report .ok = station 2 1 .erratic 0 3 ∧
      (station 2 1 .erratic 1 3).report .noReply = station 2 1 .missing 2 3 ∧
      (station 2 1 .erratic 0 1).report .ok = station 2 1 .present 0 0 := by decide

/-! ## Event queue (worked example of chapter 9) -/

/-- A FRAME_OK post of d1, stamp 61. -/
def frameOkRecord : Post := ⟨.frameOk, some .a, 0x01, 0x01, 61⟩

/-- The device with `n` records queued, a gap counter and posts on the message table's path. -/
def queued (n gap : Nat) (posts : List Post) : State :=
  device.setEvents
    { EventUnit.initial with
      kindMask := 0xEF,
      queue := List.replicate n { post := frameOkRecord, gap := 0 }, gap := gap, pathTable := posts }

/-- A post that finds 32 records is lost and counted; one that finds 31 enters with gap 4. -/
theorem test_overflow_and_gap :
    (after (.postTaken .messageTable) (queued 32 3 [frameOkRecord])).events.gap = 4 ∧
      (after (.postTaken .messageTable) (queued 31 4 [frameOkRecord])).events.queue.length = 32 ∧
      ((after (.postTaken .messageTable) (queued 31 4 [frameOkRecord])).events.queue.getLast?.map
        (·.gap)) = some 4 := by decide +kernel

/-! ## Host port (worked examples of chapters 3 and 10) -/

/-- The bytes of d2's configuration with a length. -/
def d2Window (length : Byte) : List Byte := [0x01, 0x00, 0x20, 0x00, length, 0x00, 0x01, 0x01]

/-- Line A runs schedule 0: COMMIT of d2 with length 6 is IN_USE at the offset of length, with length 13
RANGE. -/
theorem test_commit_locked_descriptor :
    let s (length : Byte) := after .commit
      (ready (openOn (onLineA (active .running 0)) .descriptor 0x02 (d2Window length)) 0x22 0 0)
    ((s 6).host.result, (s 6).host.detail) = (.inUse, 0x04) ∧
      ((s 13).host.result, (s 13).host.detail) = (.range, 0x04) := by decide +kernel
/-- ERASE of descriptor 0 while schedule 0 runs is IN_USE with DETAIL 01h. -/
theorem test_erase_locked_descriptor :
    let s := after .erase (ready (onLineA (active .running 0)) 0x23 0x00 0x00)
    (s.host.result, s.host.detail) = (.inUse, 0x01) := by decide +kernel
/-- R165: while BUSY is set a read of port data gives 00h and sets COLLIDED. -/
theorem test_port_read_while_busy :
    (after .portDataRead (ready device 0x22 0 0)).host.collided = true := by decide +kernel
/-- R163: START with schedule 8 is BAD_ARG with DETAIL 01h, the register number of ARG1. -/
theorem test_bad_argument :
    let s := after (.cmdWrite 0x01) (device.setHost { device.host with arg1 := 0x08 })
    (s.host.busy, s.host.result, s.host.detail) = (false, .badArg, 0x01) := by decide +kernel

/-! ## Witnesses: the step, reset, the field line, the command unit -/

theorem witness_StepTakesTheFrontCommand :
    ({ device with pending := [.start, .pop 0] } : State).pending = .start :: [.pop 0] := rfl
theorem witness_EmptyQueueStepIsOneClockPeriod : device.pending = [] := rfl
theorem witness_PowerOnResetOfTheHostSide :
    ({ device with inReset := true } : State).inReset = true := rfl
theorem witness_TagAndControlBytes :
    (1 ≤ 1 ∧ 1 ≤ 12) ∧ (1 ≤ 12 ∧ 12 ≤ 12) ∧ 0 < 8 ∧ 7 < 8 := by decide
/-- Both ends of every range of R76. -/
def settingsAt (top : Bool) : LineSettings :=
  if top then
    { divisor := 1666, alert := 20, mark := 5, replySpace := 15, replyGap := 7, pushSpace := 7,
      pushGap := 3, supplyWindow := 255, stuckLimit := 255, wakePulse := 16, wakeQualify := 15,
      recovery := 255, holdPoint := .cycle, holdPinEnable := true }
  else
    { divisor := 80, alert := 12, mark := 2, replySpace := 2, replyGap := 0, pushSpace := 1,
      pushGap := 0, supplyWindow := 4, stuckLimit := 30, wakePulse := 4, wakeQualify := 2,
      recovery := 16, holdPoint := .slot, holdPinEnable := false }
theorem witness_MaximumFrameTimes :
    (∀ top ∈ [true, false], (settingsAt top).InRange) ∧
      maxFrameTime (settingsAt true) .deferredPush 12 = 469 ∧ headerTime (settingsAt false) = 34 := by
  unfold LineSettings.InRange; decide
theorem witness_CommandWrite :
    (device.inReset = false ∧ device.host.busy = false ∧
      decodeCommand 0x22 device.host.arg0 device.host.arg1 = .ok .commit ∧
      decodeCommand 0x24 device.host.arg0 device.host.arg1 = .error 0xFF) ∧
    ((ready device 0x22 0 0).inReset = false ∧ (ready device 0x22 0 0).host.busy = true) ∧
    ({ device with inReset := true } : State).inReset = true := by decide +kernel
/-- The last code before a command, the first argument out of range and the last one in it. -/
theorem witness_CommandCodesAndArguments :
    decodeCommand 0x00 0 0 = .error 0xFF ∧ decodeCommand 0x0A 0 0 = .error 0xFF ∧
      decodeCommand 0x24 0 0 = .error 0xFF ∧ decodeCommand 0x01 2 9 = .error 0x00 ∧
      decodeCommand 0x01 1 8 = .error 0x01 ∧ decodeCommand 0x01 1 7 = .ok (.start .b 7) ∧
      decodeCommand 0x09 2 0 = .error 0x00 ∧ decodeCommand 0x09 1 0 = .ok (.lineReset .b) ∧
      decodeCommand 0x12 0 64 = .error 0x01 ∧ decodeCommand 0x12 0 63 = .ok (.cancel .a 63) ∧
      decodeCommand 0x23 6 0 = .error 0x00 ∧ decodeCommand 0x23 5 2 = .error 0x01 ∧
      decodeCommand 0x23 5 1 = .ok (.erase .adhoc 1) ∧
      decodeCommand 0x20 1 127 = .ok (.openPeek .slot 127) ∧
      decodeCommand 0x20 1 128 = .error 0x01 ∧ decodeCommand 0x22 0xFF 0xFF = .ok .commit := by
  decide +kernel
theorem witness_StepsThatFindNothingChangeNothing :
    device.accepted = none ∧ (device.line .b).lineState = .off ∧
      (device.line .b).seq.frameState = .idle ∧ (device.line .b).monitor.active = false := by
  decide +kernel
/-- START while STOP_END is held, and for each event a line that is not OFF and does not meet its condition. -/
theorem witness_StepsThatFindNothingToTake :
    ((ready device 0x02 0 0).accepted = some (.stopEnd .a) ∧
      Instr.start ≠ (Command.stopEnd .a).row) ∧
    (∀ fs ∈ [FrameState.alert, .mark, .header, .replyWait, .reply, .supplyWait, .pushSpace, .push],
      ((polling fs id).line .a).seq.frameState = fs ∧
        ((polling fs id).line .a).lineState = .running) ∧
    (let q := ((polling .reply fun q => { q with charCount := 5 }).line .a).seq
     q.startEdge = none ∧ q.length = some 4 ∧ 4 < q.charCount) ∧
    (let q := ((polling .reply fun q => { q with charCount := 4 }).line .a).seq
     q.length = some 4 ∧ q.charCount ≠ 4 + 1) ∧
    (∀ st ∈ [LineState.held, .asleep, .waking, .fault],
      let l := (onLineA (active st 0)).line .a
      l.lineState = st ∧ l.monitor.active = true ∧ l.monitor.runCount < l.settings.stuckLimit ∧
        l.monitor.qualifyCount ≠ some 0 ∧ l.monitor.wakePhase = .none ∧
        l.monitor.recoveryCount < l.settings.recovery ∧ l.lastSample = l.previousSample ∧
        (l.pinAsserted = true ↔ l.lastSample = .low)) ∧
    (∀ h ∈ device.events.holds, h.line ≠ .a) := by decide +kernel

/-! ## Witnesses: line commands -/

/-- Line A in a line state with schedule 0 active. -/
def inState (st : LineState) : State := onLineA (active st 0)

theorem witness_StartCommand :
    ((ready (inState .running) 0x01 0 0).accepted = some (.start .a 0) ∧
      ((inState .running).line .a).lineState ≠ .off) ∧
    ((ready device 0x01 0 2).accepted = some (.start .a 2) ∧ (device.line .a).lineState = .off ∧
      (ready device 0x01 0 2).validationFailure .a 2 = some 0x82) ∧
    ((ready device 0x01 0 0).accepted = some (.start .a 0) ∧ (device.line .a).active = none ∧
      (ready device 0x01 0 0).validationFailure .a 0 = none) := by decide +kernel
theorem witness_StopEndCommand :
    ∀ st ∈ [LineState.off, .running, .draining, .held, .asleep, .waking, .fault],
      (ready (inState st) 0x02 0 0).accepted = some (.stopEnd .a) ∧
        ((ready (inState st) 0x02 0 0).line .a).lineState = st := by decide +kernel
theorem witness_StopNowCommand :
    (ready (polling .reply id) 0x03 0 0).accepted = some (.stopNow .a) ∧
      (ready (polling .reply id) 0x03 0 0).DescriptorFrame .a 0 (.scheduled 0) .poll ∧
      (ready (hushing .push id) 0x03 0 0).HushFrame .a ∧
      (ready (inState .held) 0x03 0 0).accepted = some (.stopNow .a) ∧
      ((ready (inState .held) 0x03 0 0).line .a).seq.frameState = .idle := by
  unfold State.DescriptorFrame State.HushFrame; decide +kernel
theorem witness_SwitchCommand :
    ((ready (inState .draining) 0x04 0 0).accepted = some (.switch .a 0) ∧
      ((inState .draining).line .a).lineState = .draining) ∧
    ∀ st ∈ [LineState.running, .held, .asleep, .waking, .fault],
      ((inState st).line .a).lineState = st ∧
        (inState st).validationFailure .a 2 = some 0x82 ∧
        (inState st).validationFailure .a 0 = none := by decide +kernel
/-- Line A HELD at a position with its hold flag and pin level. -/
def held (index : Nat) (flag pin : Bool) : State :=
  onLineA fun l =>
    { active .held index l with
      holdFlag := flag, pinAsserted := pin,
      settings := { LineSettings.initial with holdPinEnable := true } }
theorem witness_HoldCommands :
    (ready (inState .off) 0x05 0 0).accepted = some (.holdSet .a) ∧
      (ready (inState .running) 0x06 0 0).accepted = some (.holdClear .a) ∧
      ((inState .running).line .a).lineState ≠ .held ∧
      ((held 0 true true).line .a).lineState = .held ∧
      ((held 0 true true).line .a).settings.holdPinEnable = true ∧
      ((held 0 true true).line .a).pinAsserted = true := by decide +kernel
theorem witness_ReleaseFromHeld :
    (∀ i ∈ [0, 2], (ready (held i true false) 0x06 0 0).accepted = some (.holdClear .a) ∧
      ((held i true false).line .a).lineState = .held ∧
      ((held i true false).line .a).holdFlag = true ∧
      ¬ (((held i true false).line .a).settings.holdPinEnable = true ∧
          ((held i true false).line .a).pinAsserted = true)) ∧
    (∀ i ∈ [0, 2], ((held i false true).line .a).lineState = .held ∧
      ((held i false true).line .a).pinAsserted = true ∧
      ((held i false true).line .a).settings.holdPinEnable = true ∧
      ((held i false true).line .a).holdFlag = false ∧
      ((held i false true).line .a).lastSample = .high ∧
      ((held i false true).line .a).previousSample = .high) := by decide +kernel
/-- Line A in FAULT with a run count. -/
def inFault (run : Nat) : State :=
  onLineA fun l =>
    { active .fault 0 l with monitor := { Monitor.off with active := true, runCount := run } }
theorem witness_WakeAndClearFaultCommands :
    ((ready (inState .asleep) 0x07 0 0).accepted = some (.wake .a) ∧
      ((inState .asleep).line .a).lineState = .asleep) ∧
    ((ready (inFault 1) 0x08 0 0).accepted = some (.clearFault .a) ∧
      ((inFault 1).line .a).lineState = .fault ∧ 0 < ((inFault 1).line .a).monitor.runCount) ∧
    ((ready (inFault 0) 0x08 0 0).accepted = some (.clearFault .a) ∧
      ((inFault 0).line .a).monitor.runCount = 0) := by decide +kernel
theorem witness_LineResetCommand :
    (ready (polling .reply id) 0x09 0 0).accepted = some (.lineReset .a) ∧
      (ready (polling .reply id) 0x09 0 0).DescriptorFrame .a 0 (.scheduled 0) .poll ∧
      (ready (hushing .push id) 0x09 0 0).HushFrame .a ∧
      (ready device 0x09 1 0).accepted = some (.lineReset .b) := by
  unfold State.DescriptorFrame State.HushFrame; decide +kernel

/-! ## Witnesses: slots and cycles -/

/-- Line A at a position of a schedule in a cycle. -/
def position (k : Fin 8) (index : Nat) (count : Count16) : State :=
  onLineA fun l => { active .running index l with active := some k, cycleCount := count }
theorem witness_SlotStart :
    ((position 0 0 0).currentSlot .a = some 0 ∧ (device.slot 0).kind = .regular ∧
      (position 0 2 0).currentSlot .a = some 2 ∧ 0 % (device.slot 2).divisor = 0 ∧
      1 % (device.slot 2).divisor ≠ 0) ∧
    ((position 0 3 0).currentSlot .a = some 3 ∧ (device.slot 3).kind = .open) ∧
    ((position 1 0 0).currentSlot .a = some 4 ∧ (device.slot 4).kind = .mark) ∧
    ((position 1 2 0).currentSlot .a = some 6 ∧ (device.slot 6).kind = .hush) ∧
    ((device.setSlot 0 (every .gap 8 0)).slot 0).kind = .gap ∧
    (device.desc 0).config.node = some 0 ∧
    ((device.setNode 0 (station 3 4 .missing 3 0)).node 0).state = .missing ∧
    22 % ((device.setNode 0 (station 3 4 .missing 3 0)).node 0).config.probeDivisor ≠ 0 ∧
    24 % ((device.setNode 0 (station 3 4 .missing 3 0)).node 0).config.probeDivisor = 0 := by
  decide +kernel
theorem witness_FrameStart :
    (device.desc 0).config.length ≤ 12 ∧ frameKindOf (device.desc 1).config = .storedPush ∧
      frameKindOf (device.desc 3).config ≠ .storedPush := by decide +kernel
/-- Line A at the end of a slot of schedule 0 with its hold flag. -/
def atEnd (st : LineState) (index : Nat) (flag hush : Bool) : State :=
  onLineA fun l => { active st index l with holdFlag := flag, hushOk := hush }
theorem witness_SlotEndInsideTheCycle :
    (∀ st ∈ [LineState.running, .draining], ∀ h ∈ [false, true], ∀ i ∈ [0, 2],
      ((atEnd st i h false).line .a).lineState = st ∧
      ((atEnd st i h false).line .a).seq.frameState = .idle ∧
      ((atEnd st i h false).line .a).active = some 0 ∧
      ((atEnd st i h false).currentSlot .a).isSome ∧
      ((atEnd st i h false).line .a).hushOk = false ∧
      i + 1 < ((atEnd st i h false).dir 0).slotCount ∧
      ((atEnd st i h false).line .a).holdRequest = h) ∧
    ((atEnd .running 3 false true).line .a).hushOk = true := by decide +kernel
theorem witness_CycleBoundaryAtSlotEndAndRecoveryEnd :
    (((atEnd .running 3 false false).currentSlot .a) = some 3 ∧
      ((atEnd .running 3 false false).dir 0).slotCount ≤ 3 + 1) ∧
    (let s := onLineA fun l =>
        { active .waking 0 l with
          monitor := { Monitor.off with active := true, wakePhase := .recovery,
                                        recoveryCount := 40 } }
     (s.line .a).lineState = .waking ∧ (s.line .a).seq.frameState = .idle ∧
       (s.line .a).monitor.wakePhase = .recovery ∧
       (s.line .a).settings.recovery ≤ (s.line .a).monitor.recoveryCount) := by decide +kernel
theorem witness_CycleCountChangesOnlyWhereStated :
    exec (.slotEnd .a) (atEnd .running 3 false false)
      = .next (after (.slotEnd .a) (atEnd .running 3 false false)) ∧
    Instr.pop 0 ≠ .powerOnReset ∧ Instr.pop 0 ≠ .slotEnd .a := ⟨rfl, by decide, by decide⟩

/-! ## Witnesses: the course of a frame -/

theorem witness_AlertMarkAndPushSpaceEnd :
    ((polling .alert id).line .a).seq.frameState = .alert ∧
      ((polling .mark id).line .a).seq.frameState = .mark ∧
      ((hushing .pushSpace fun q => { q with controlEnd := some 35 }).line .a).seq.frameState
        = .pushSpace ∧
      ((hushing .pushSpace fun q => { q with controlEnd := some 35 }).line .a).seq.controlEnd
        = some 35 := by decide +kernel
/-- Line A with a push of a kind and of its descriptor in flight. -/
def pushing (kind : FrameKind) (d : Fin 64) (fs : FrameState) (f : Sequencer → Sequencer) : State :=
  onLineA fun l =>
    { active .running 1 l with seq := f (inFlight fs (.scheduled 1) (some d) kind 2) }
theorem witness_ControlEnd :
    ((polling .header id).line .a).seq.frameState = .header ∧
      (polling .header id).DescriptorFrame .a 0 (.scheduled 0) .poll ∧
      (pushing .storedPush 1 .header id).DescriptorFrame .a 1 (.scheduled 1) .storedPush ∧
      (pushing .deferredPush 3 .header id).DescriptorFrame .a 3 (.scheduled 1) .deferredPush ∧
      (hushing .header id).HushFrame .a := by
  unfold State.DescriptorFrame State.HushFrame; decide +kernel
/-- First and last bit time of each sent run, sampled as driven and otherwise. -/
theorem witness_ReadbackOfSentBits :
    (∀ p ∈ [(FrameState.alert, 13), (.mark, 2), (.header, 20)],
      sentBits ((polling p.1 id).line .a).settings ((polling p.1 id).line .a).seq = p.2) ∧
    sentBits ((pushing .storedPush 1 .push id).line .a).settings
      ((pushing .storedPush 1 .push id).line .a).seq = 30 ∧
    (pushing .storedPush 1 .push id).DescriptorFrame .a 1 (.scheduled 1) .storedPush ∧
    (hushing .push id).HushFrame .a ∧
    sentBits ((polling .alert id).line .a).settings ((polling .alert id).line .a).seq ≤ 13 ∧
    ((polling .replyWait id).line .a).seq.frameState
      ∈ [FrameState.idle, .replyWait, .reply, .supplyWait, .pushSpace] ∧
    majority ⟨.dominant, .recessive, .dominant⟩ = .dominant ∧
    majority ⟨.dominant, .recessive, .recessive⟩ = .recessive := by
  unfold State.DescriptorFrame State.HushFrame; decide +kernel
/-- The poll of d0 waiting for its reply, and receiving it with a character behind it. -/
def replying (count : Nat) (edge : Option Nat) : State :=
  polling .reply fun q =>
    { q with startEdge := edge, charCount := count, lastCharEnd := some (58 * 208) }
/-- Edges at the first and the last instant of each window, and recessive start bits whose third sample
comes before and at the deadline. -/
theorem witness_ReplyStartBit :
    (let s := polling .replyWait fun q => { q with controlEnd := some 35 }
     s.DescriptorFrame .a 0 (.scheduled 0) .poll ∧ (s.line .a).seq.frameState = .replyWait ∧
       (s.line .a).seq.controlEnd = some 35 ∧
       (35 - 1) * 208 + 9 * 208 / 16 < 34 * 208 + 118 ∧ 41 * 208 ≤ (35 + 6) * 208 ∧
       (s.line .a).seq.lookAgain = none ∧
       34 * 208 + 117 ≤ (35 - 1) * 208 + 9 * 208 / 16 ∧ (35 + 6) * 208 < 41 * 208 + 1 ∧ 40 * 208 + 90 + 9 * 208 / 16 < (35 + 6) * 208 ∧
       (35 + 6) * 208 ≤ 40 * 208 + 91 + 9 * 208 / 16) ∧
    (let s := polling .replyWait fun q =>
        { q with controlEnd := some 35, lookAgain := some (36 * 208 + 118) }
     s.DescriptorFrame .a 0 (.scheduled 0) .poll ∧
       (s.line .a).seq.lookAgain = some (36 * 208 + 118) ∧ 36 * 208 + 117 < 36 * 208 + 118 ∧
       36 * 208 + 118 ≤ (35 + 6) * 208) ∧
    (let s := replying 2 none
     s.DescriptorFrame .a 0 (.scheduled 0) .poll ∧ (s.line .a).seq.frameState = .reply ∧
       (s.line .a).seq.startEdge = none ∧ (s.line .a).seq.lastCharEnd = some (58 * 208) ∧
       (s.line .a).seq.length = some 4 ∧ (s.line .a).seq.charCount ≤ 4 ∧
       (s.line .a).seq.lookAgain = none ∧ 58 * 208 - 208 + 8 * 208 / 16 ≤ 57 * 208 + 104 ∧ 60 * 208 ≤ 58 * 208 + 2 * 208 ∧
       57 * 208 + 103 < 58 * 208 - 208 + 8 * 208 / 16 ∧ 58 * 208 + 2 * 208 < 60 * 208 + 1) ∧
    (((replying 5 none).line .a).seq.length = some 4 ∧
      4 < ((replying 5 none).line .a).seq.charCount ∧
      ((replying 2 (some (38 * 208))).line .a).seq.startEdge ≠ none) := by
  unfold State.DescriptorFrame; decide +kernel
theorem witness_ReplyCharacter :
    (replying 0 (some (38 * 208))).DescriptorFrame .a 0 (.scheduled 0) .poll ∧
      ((replying 0 (some (38 * 208))).line .a).seq.frameState = .reply ∧
      ((replying 4 (some (38 * 208))).line .a).seq.startEdge = some (38 * 208) ∧
      ((replying 4 (some (38 * 208))).line .a).seq.length = some 4 ∧
      (0xFF : BitVec 9).getLsbD 8 = false ∧ (0x100 : BitVec 9).getLsbD 8 = true := by
  unfold State.DescriptorFrame; decide +kernel
theorem witness_ReplyTimeouts :
    (let s := polling .replyWait fun q => { q with controlEnd := some 35 }
     s.DescriptorFrame .a 0 (.scheduled 0) .poll ∧ (s.line .a).seq.controlEnd = some 35) ∧
    (let s := replying 4 none
     s.DescriptorFrame .a 0 (.scheduled 0) .poll ∧ (s.line .a).seq.startEdge = none ∧
       (s.line .a).seq.charCount ≤ 4) := by unfold State.DescriptorFrame; decide +kernel
theorem witness_CheckCompare :
    (replying 5 none).DescriptorFrame .a 0 (.scheduled 0) .poll ∧
      ((replying 5 none).line .a).seq.frameState = .reply ∧
      ((replying 5 none).line .a).seq.startEdge = none ∧
      ((replying 5 none).line .a).seq.lastCharEnd = some (58 * 208) ∧
      ((replying 5 none).line .a).seq.length = some 4 ∧
      ((replying 5 none).line .a).seq.charCount = 4 + 1 := by
  unfold State.DescriptorFrame; decide +kernel
/-- A deferred push of d3 that waits for its SUPPLY at bit time `now`. -/
def waiting (now : Nat) : State :=
  onLineA fun l =>
    { active .running 1 l with
      time := 1000 + now * 208,
      seq := { inFlight .supplyWait (.scheduled 1) (some 3) .deferredPush 3 with
               controlEnd := some 35, supplyRequest := some 3 } }
theorem witness_SupplyCommand :
    (∀ now ∈ [36, 37], (ready (waiting now) 0x10 0 3).accepted = some (.supply .a 3) ∧
      ((waiting now).line .a).seq.frameState = .supplyWait ∧
      ((waiting now).line .a).seq.supplyRequest = some 3 ∧
      ((waiting now).line .a).seq.controlEnd = some 35 ∧
      ((waiting now).line .a).seq.length = some 3 ∧
      ((waiting now).line .a).elapsed = now * 208) ∧
    ((ready (waiting 36) 0x10 0 1).accepted = some (.supply .a 1) ∧ (3 : Fin 64) ≠ 1) ∧
    ((ready device 0x10 0 3).accepted = some (.supply .a 3) ∧
      (device.line .a).seq.frameState ≠ .supplyWait ∧ (device.desc 3).config.inUse = true ∧
      (device.desc 3).config.line = .a ∧ (device.desc 3).lastOutcome ≠ some .lateData) ∧
    ((device.setDesc 3 { device.desc 3 with lastOutcome := some .lateData }).desc 3).lastOutcome
      = some .lateData := by decide +kernel
theorem witness_SupplyWindowAndPushEnd :
    ((waiting 36).DescriptorFrame .a 3 (.scheduled 1) .deferredPush ∧
      ((waiting 36).line .a).seq.controlEnd = some 35) ∧
    (let s := pushing .storedPush 1 .push fun q => { q with pushStart := some (37 * 208) }
     s.DescriptorFrame .a 1 (.scheduled 1) .storedPush ∧
       (s.line .a).seq.pushStart = some (37 * 208) ∧ (s.line .a).seq.length = some 2) ∧
    (let s := hushing .push fun q => { q with pushStart := some (37 * 208) }
     s.HushFrame .a ∧ (s.line .a).seq.length = some 1) := by
  unfold State.DescriptorFrame State.HushFrame; decide +kernel
theorem witness_NodeAfterAReport :
    ((station 3 4 .present 255 31).misses ≤ 255 ∧ (station 3 4 .present 255 31).score ≤ 31) ∧
      (station 3 4 .present 2 0).config.missThreshold
        ≤ ((station 3 4 .present 2 0).report .noReply).misses ∧
      (station 3 4 .present 0 2).config.errorThreshold
        ≤ ((station 3 4 .present 0 2).report .framing).score := by decide

/-! ## Witnesses: the line monitor -/

theorem witness_BitTimeJudged :
    ((device.line .a).monitor.active = false ∧ ((sleeping none).line .a).monitor.active = true ∧
      ((sleeping none).line .a).lineState = .asleep) ∧
    (let s := onLineA fun l =>
        { active .waking 0 l with
          monitor := { Monitor.off with active := true, wakePhase := .recovery } }
     (s.line .a).monitor.active = true ∧ (s.line .a).lineState = .waking ∧
       (s.line .a).monitor.wakePhase = .recovery) := by decide +kernel
/-- Line A with a dominant run at the stuck limit. -/
def stuck (st : LineState) (q : Sequencer) : State :=
  onLineA fun l =>
    { active st 0 l with
      seq := q, monitor := { Monitor.off with active := true, runCount := 60 } }
theorem witness_StuckLineReport :
    (∀ st ∈ [LineState.fault, .running, .asleep],
      ((stuck st .initial).line .a).monitor.active = true ∧
      ((stuck st .initial).line .a).monitor.stuckReported = false ∧
      ((stuck st .initial).line .a).settings.stuckLimit
        ≤ ((stuck st .initial).line .a).monitor.runCount ∧
      ((stuck st .initial).line .a).lineState = st) ∧
    (stuck .running (inFlight .reply (.scheduled 0) (some 0) .poll 4)).DescriptorFrame .a 0
      (.scheduled 0) .poll ∧
    (stuck .running (inFlight .push .hush none .hush 1)).HushFrame .a := by
  unfold State.DescriptorFrame State.HushFrame; decide +kernel
theorem witness_RemoteWakeAndPulseEnd :
    (((sleeping (some 0)).line .a).lineState = .asleep ∧
      ((sleeping (some 0)).line .a).monitor.qualifyCount = some 0) ∧
    (let s := onLineA fun l =>
        { active .waking 0 l with
          monitor := { Monitor.off with active := true, wakePhase := .pulse, pulseCount := 1 } }
     (s.line .a).lineState = .waking ∧ (s.line .a).monitor.wakePhase = .pulse ∧
       (s.line .a).seq.frameState = .idle) := by decide +kernel
/-- Line A running with the last two samples of its HOLD pin and its pin level. -/
def sampled (last before : PinLevel) (pin : Bool) : State :=
  onLineA fun l =>
    { active .running 0 l with lastSample := last, previousSample := before, pinAsserted := pin }
theorem witness_HoldPin :
    ((sampled .low .low false).line .a).lineState ≠ .off ∧
      (((sampled .low .low false).line .a).lastSample = .low ∧
        ((sampled .low .low false).line .a).previousSample = .low) ∧
      (((sampled .high .high true).line .a).lastSample = .high ∧
        ((sampled .high .high true).line .a).previousSample = .high ∧
        ((sampled .high .high true).line .a).lineState ≠ .held) ∧
      ((sampled .low .high false).line .a).lastSample
        ≠ ((sampled .low .high false).line .a).previousSample := by decide +kernel

/-! ## Witnesses: ad-hoc requests -/

/-- The device with requests queued on line A and one in flight. -/
def requests (queue : List (Fin 64)) (inFlight : Option (Fin 64)) : State :=
  onLineA fun l => { active .running 0 l with queue := queue, inFlight := inFlight }
/-- One state for each check, the capacity met by 8 requests and not by 7. -/
theorem witness_EnqueueCommand :
    ((ready device 0x11 0 9).accepted = some (.enqueue .a 9) ∧
      (device.desc 9).config.inUse = false) ∧
    ((ready device 0x11 0 4).accepted = some (.enqueue .a 4) ∧ (device.desc 4).config.line = .b) ∧
    ((ready (requests [0] none) 0x11 0 0).accepted = some (.enqueue .a 0) ∧
      0 ∈ ((requests [0] none).line .a).queue) ∧
    (0 ∉ ((requests [1] (some 0)).line .a).queue ∧
      ((requests [1] (some 0)).line .a).inFlight = some 0) ∧
    (0 ∉ ((requests [1, 2, 3, 10, 11, 12, 13, 14] none).line .a).queue ∧
      ((requests [1, 2, 3, 10, 11, 12, 13, 14] none).line .a).queue.length = 8) ∧
    (0 ∉ ((requests [1, 2, 3, 10, 11, 12, 13] none).line .a).queue ∧
      ((requests [1, 2, 3, 10, 11, 12, 13] none).line .a).queue.length < 8 ∧
      ((requests [1, 2, 3, 10, 11, 12, 13] none).desc 0).config.inUse = true ∧
      ((requests [1, 2, 3, 10, 11, 12, 13] none).desc 0).config.line = .a) := by decide +kernel
theorem witness_CancelCommand :
    ((ready (requests [2, 0, 3] none) 0x12 0 0).accepted = some (.cancel .a 0) ∧
      ((requests [2, 0, 3] none).line .a).queue = [2] ++ 0 :: [3]) ∧
    (0 ∉ ((requests [2] (some 0)).line .a).queue ∧
      ((requests [2] (some 0)).line .a).inFlight = some 0) ∧
    ((requests [2] (some 3)).line .a).inFlight ≠ some 0 := by decide +kernel

/-! ## Witnesses: the table port -/

theorem witness_OpenCommands :
    (ready device 0x20 4 1).accepted = some (.openPeek .line 1) ∧
      (ready device 0x21 0 63).accepted = some (.openTake .descriptor 63) ∧
      (ready device 0x21 3 31).accepted = some (.openTake .node 31) ∧
      (device.line .a).queue.length ≤ 8 ∧ (device.line .b).queue.length ≤ 8 := by decide +kernel
theorem witness_CommitAndThePort :
    ((ready device 0x22 0 0).accepted = some .commit ∧ device.port.isOpen = false) ∧
    ((ready (openOn device .adhoc 0 []) 0x22 0 0).accepted = some .commit ∧
      (openOn device .adhoc 0 []).port.table = .adhoc) := by decide +kernel
/-- A buffer of a descriptor window. -/
def window (bytes : List Byte) : Window := overlay bytes (Vector.replicate 32 0)
/-- One buffer for each check of a descriptor commit. -/
theorem witness_CommitOfADescriptor :
    (let s := ready (openOn device .descriptor 2 (d2Window 8)) 0x22 0 0
     s.accepted = some .commit ∧ s.port.isOpen = true ∧ s.port.table = .descriptor ∧
       s.port.index = BitVec.ofNat 8 2 ∧ descriptorRange s.port.buffer = none ∧
       (s.desc 2).config = descriptorFields s.port.buffer ∧ s.descriptorLocked 2 = false ∧
       (s.node 1).config.inUse = true ∧ (s.node 1).config.line = .a) ∧
    descriptorRange (window (d2Window 13)) = some 4 ∧
    (descriptorRange (window [0x01, 0x00, 0x20, 0x00, 0x08, 0x00, 0x1F, 0x01]) = none ∧
      (descriptorFields (window [0x01, 0x00, 0x20, 0x00, 0x08, 0x00, 0x1F, 0x01])).node = some 31 ∧
      (device.node 31).config.inUse = false) ∧
    ((descriptorFields (window [0x01, 0x00, 0x10, 0x00, 0x08, 0x00, 0x01, 0x01])).tag
        = (device.desc 0).config.tag) ∧
    ((onLineA (active .running 0)).descriptorLocked 2 = true ∧
      descriptorDifference (device.desc 2).config (descriptorFields (window (d2Window 6)))
        = some 4) := by decide +kernel
/-- One buffer for each outcome of the other four tables. -/
theorem witness_CommitOfTheOtherTables :
    (directoryRange (window [0x01, 0x00, 0x81, 0xFF]) = some 2 ∧
      directoryRange (window [0x01, 0x7F, 0x01, 0x07]) = none ∧
      0 ∈ (inState .running).lockedClosure ∧ 1 ∉ (inState .running).lockedClosure) ∧
    (slotRange (window [0x00, 0x07, 0x00, 0x01, 0x00, 0x00]) = some 1 ∧
      slotRange (window [0x01, 0xFF, 0x0F, 0x10, 0x0F, 0x3F]) = none ∧
      ((inState .running).dir 0).covers 3 = true ∧ ((inState .running).dir 0).covers 4 = false) ∧
    (nodeRange (window [0x01, 0x00, 0x10, 0x01, 0x01, 0x00]) = some 2 ∧
      nodeRange (window [0x01, 0x01, 0x0F, 0x1F, 0x80, 0x01]) = none ∧
      (nodeFields (window [0x01, 0x01, 0x0F, 0x1F, 0x80, 0x01])).line
        ≠ (device.node 0).config.line ∧
      (device.desc 0).config.node = some 0) ∧
    (settingsRange (window [0x4F, 0x00]) = some 0 ∧
      settingsRange (window
        [0x50, 0x00, 12, 2, 2, 0, 5, 0, 4, 30, 4, 2, 16, 0, 0]) = some 8 ∧
      settingsRange (window
        [0x82, 0x06, 20, 5, 15, 7, 7, 3, 255, 255, 16, 15, 255, 1, 1]) = none ∧
      ((inState .running).line .a).lineState ≠ .off ∧ (device.line .a).lineState = .off) := by
  decide +kernel
theorem witness_EraseCommand :
    ((ready (inState .running) 0x23 0 0).accepted = some (.erase .descriptor 0) ∧
      (inState .running).namedInClosure 0 = true ∧ (inState .running).namedInClosure 3 = false ∧
      ((inState .running).desc 0).adhoc = .none ∧
      (((inState .running).setAdhoc 0 .queued).desc 0).adhoc ≠ .none ∧
      (((inState .running).setAdhoc 3 .inFlight).desc 3).adhoc ≠ .none) ∧
    ((ready (inState .running) 0x23 2 0).accepted = some (.erase .directory 0) ∧
      0 ∈ (inState .running).lockedClosure ∧ 1 ∉ (inState .running).lockedClosure) ∧
    ((ready (inState .running) 0x23 1 127).accepted = some (.erase .slot 127) ∧
      ((inState .running).dir 0).covers 0 = true) ∧
    ((ready device 0x23 3 0).accepted = some (.erase .node 0) ∧
      (device.desc 0).config.node = some 0 ∧ (device.node 31).config.inUse = false) ∧
    ((ready device 0x23 4 1).accepted = some (.erase .line 1) ∧
      (device.line .b).lineState = .off) ∧
    (ready device 0x23 5 0).accepted = some (.erase .adhoc 0) := by decide +kernel

/-! ## Witnesses: the register window and the event queue -/

theorem witness_RegisterReads :
    device.inReset = false ∧ (queued 0 0 []).events.queue = [] ∧
      (queued 1 0 []).events.queue = { post := frameOkRecord, gap := 0 } :: [] ∧
      (ready device 0x22 0 0).host.busy = true ∧ device.host.busy = false := by decide +kernel
theorem witness_RegisterWrites :
    device.inReset = false ∧ (queued 1 0 []).events.queue ≠ [] ∧ device.events.queue = [] ∧
      (Instr.registerWrite 0x1F 0).wf = true ∧
      (0x1F : BitVec 5) ∉ [0x04, 0x05, 0x06, 0x07] := by decide +kernel
theorem witness_PortAccesses :
    device.inReset = false ∧ device.host.busy = false ∧ (ready device 0x22 0 0).host.busy = true ∧
      (31 : BitVec 5).toNat = 31 := by decide +kernel
/-- A hold of line A whose records wait for one post, or for none. -/
def holding (n : Nat) : State :=
  device.setEvents
    { EventUnit.initial with
      pathA := [frameOkRecord], holds := [{ line := .a, waiting := n, records := [resetRecord .a] }] }
theorem witness_ArbiterAndResetRecords :
    (device.events.path .messageTable = [] ∧
      (∃ h ∈ (holding 0).events.holds, h.line = .a ∧ h.waiting = 0) ∧
      ¬ ((∃ h ∈ (holding 1).events.holds, h.line = .a ∧ h.waiting = 0) ∨
        ∃ r ∈ (holding 1).events.pathUnit, r.line = some .a)) ∧
    (∀ n ∈ [31, 32],
      (queued n 0 [frameOkRecord]).events.path .messageTable = frameOkRecord :: [] ∧
      (queued n 0 [frameOkRecord]).events.kindMask.getLsbD (eventKindCode .frameOk - 1) = true ∧
      (queued n 0 [frameOkRecord]).events.queue.length = n) ∧
    device.events.kindMask.getLsbD (eventKindCode .frameOk - 1) = false ∧
    (holding 1).events.holds
      = [] ++ { line := .a, waiting := 1, records := [resetRecord .a] } :: [] := by decide +kernel

/-! ## Witnesses: the whole device -/

/-- A follow-on chain of all eight schedules that returns to its first. -/
def chain : State :=
  { device with
    directory := ⟨((List.finRange 8).map fun k =>
      { DirectoryEntry.initial with followOn := some (k + 1) }).toArray, by simp⟩ }
theorem witness_ClosureIsTheFollowOnChain :
    chain.closure 5 = [5, 6, 7, 0, 1, 2, 3, 4] ∧ device.closure 7 = [7] := by decide +kernel
theorem witness_Validation :
    (device.closure 0 = [] ++ 0 :: [] ∧ (device.dir 0).inUse = true ∧
      (device.dir 0).covers 0 = true ∧ (device.dir 2).inUse = false) := by decide +kernel
theorem witness_TheOtherLineIsUntouched :
    Instr.lineOf device (.slotEnd .a) ≠ some .b ∧
      Instr.lineOf (ready device 0x01 0 0) .start ≠ some .b ∧
      Instr.lineOf device .commit ≠ some .b := by decide +kernel

/-- Line A running slot 0 with the poll of d0 in its header and d1 in the ad-hoc queue, one step waiting. -/
def running : State :=
  let s := polling .header id
  let s := s.setLine .a { s.line .a with queue := [1] }
  { s.setAdhoc 1 .queued with pending := [.controlEnd .a] }

theorem witness_step_of_running :
    step running = .next (after (.controlEnd .a) { running with pending := [] }) := rfl
theorem witness_SchedulesInUseStayAsValidated :
    running.SchedulesValid ∧ (running.line .a).lineState ≠ .off ∧ 0 ∈ running.lineClosure .a ∧
      (running.dir 0).covers 0 = true ∧ (running.slot 0).kind = .regular := by
  refine ⟨⟨by decide +kernel, ?_, ?_, ?_⟩, by decide +kernel, by decide +kernel, by decide +kernel,
    by decide +kernel⟩ <;> intro x <;> cases x <;> decide +kernel
theorem witness_EveryStepKeepsTheEventQueue :
    (queued 32 15 []).events.Bounded ∧ Instr.postTaken .messageTable ≠ .powerOnReset :=
  ⟨⟨by decide +kernel, by decide +kernel, by decide +kernel⟩, by decide⟩
theorem witness_EveryStepKeepsTheTablesInRange : running.TablesInRange := by
  refine ⟨?_, by decide +kernel, by decide +kernel, by decide +kernel, by decide +kernel,
    by decide +kernel, by decide +kernel⟩
  intro x; cases x <;> decide +kernel
theorem witness_EveryStepKeepsTheNodesCoherent : running.NodesCoherent := by
  refine ⟨fun n => ?_, by decide +kernel⟩
  have h : ∀ n, (running.node n).state = .unused ↔ (running.node n).config.inUse = false := by
    decide +kernel
  have h1 : ∀ n, (running.node n).misses = 0 ∧ (running.node n).score = 0 ∧
      (running.node n).state ≠ .missing ∧ (running.node n).state ≠ .erratic ∧
      (running.node n).config.InRange := by decide +kernel
  obtain ⟨m, c, a, e, r⟩ := h1 n
  exact ⟨h n, by omega, by omega, fun h => absurd h a, fun h => absurd h e, r⟩
theorem witness_EveryStepKeepsTheLinesCoherent : running.LinesCoherent := by
  intro x
  cases x <;> constructor <;> decide +kernel
/-- The tag's start bit drives the pin of the coherent line A dominant; each frame state stands somewhere. -/
theorem witness_pin :
    (running.line .a).pin = .dominant ∧ (running.line .a).seq.frameState = .header ∧
      (running.line .a).monitor.wakePhase ≠ .pulse ∧
      ((polling .alert id).line .a).monitor.wakePhase ≠ .pulse ∧
      ((polling .mark id).line .a).seq.frameState
        ∈ [FrameState.idle, .mark, .replyWait, .reply, .supplyWait, .pushSpace] ∧
      ({ Monitor.off with wakePhase := .pulse } : Monitor).wakePhase = .pulse ∧
      ((pushing .storedPush 1 .push fun q => { q with pushStart := some 7696 }).line
        .a).seq.pushStart = some 7696 := by decide +kernel
theorem witness_EveryStepKeepsTheAdhocViews : running.AdhocViews := by
  refine ⟨witness_EveryStepKeepsTheLinesCoherent, ?_, ?_, by decide +kernel⟩ <;> intro x <;>
    cases x <;> decide +kernel

end Sys2Proof.Tests
end

-- ==== Proofs: the field line ====
section
/-! The check register (R9) and the maximum frame times (R15). -/

namespace Sys2Proof.Machine

/-! ## The check register -/

theorem crcShift_zero : crcShift 0 = 0 := by decide

theorem crcShift_xor (a b : Byte) : crcShift (a ^^^ b) = crcShift a ^^^ crcShift b := by
  unfold crcShift
  rw [BitVec.msb_xor, BitVec.shiftLeft_xor_distrib]
  generalize a <<< 1 = u, b <<< 1 = v
  cases a.msb <;> cases b.msb
  case true.true =>
    calc u ^^^ v = u ^^^ v ^^^ (0x2F ^^^ 0x2F) := by simp
      _ = (u ^^^ 0x2F) ^^^ (v ^^^ 0x2F) := by ac_rfl
  all_goals simp only [Bool.xor_true, Bool.xor_false, Bool.not_false, Bool.false_eq_true,
    if_true, if_false]
  all_goals ac_rfl

theorem crcShift_iterate_xor (n : Nat) (a b : Byte) :
    crcShift^[n] (a ^^^ b) = crcShift^[n] a ^^^ crcShift^[n] b := by
  induction n generalizing a b with
  | zero => rfl
  | succ n ih => simp only [Function.iterate_succ_apply, crcShift_xor, ih]

/-- A byte is taken by adding it to the register and dividing eight times. -/
theorem crcByte_eq_iterate (r b : Byte) : crcByte r b = crcShift^[8] (r ^^^ b) := by
  rw [crcByte, List.foldl_const, List.length_range]

theorem crcByte_self (r : Byte) : crcByte r r = 0 := by
  rw [crcByte_eq_iterate, BitVec.xor_self]
  exact Function.iterate_fixed crcShift_zero 8

theorem crcByte_xor (r b c : Byte) : crcByte (r ^^^ b) c = crcByte r c ^^^ crcByte b 0x00 := by
  have sorted : r ^^^ b ^^^ c = (r ^^^ c) ^^^ (b ^^^ 0x00) :=
    calc r ^^^ b ^^^ c = (r ^^^ c) ^^^ b := by ac_rfl
      _ = (r ^^^ c) ^^^ (b ^^^ 0x00) := by rw [show b ^^^ 0x00 = b from BitVec.xor_zero]
  simp only [crcByte_eq_iterate, sorted, crcShift_iterate_xor]

/-- The check of a message divides the message with its check without remainder (R9). -/
theorem crcFrom_append_check (r : Byte) (bytes : List Byte) :
    crcFrom r (bytes ++ [crcFrom r bytes]) = 0 := by
  simp only [crcFrom, List.foldl_append, List.foldl_cons, List.foldl_nil, crcByte_self]

/-- Settles O7: the register is the shift iterated on register plus byte, and the shift is linear. -/
theorem checkRegisterDividesByThePolynomial :
    Obligations.CheckRegisterDividesByThePolynomial :=
  ⟨crcFrom_append_check 0xFF, crcByte_xor, by decide, by decide, by decide, by decide, rfl⟩

/-! ## The maximum frame times -/

theorem headerTime_le_maxFrameTime (st : LineSettings) (kind : FrameKind) (length : Nat) :
    headerTime st ≤ maxFrameTime st kind length := by
  cases kind <;> simp only [maxFrameTime] <;> omega

theorem headerTime_bounds {st : LineSettings} (range : st.InRange) :
    34 ≤ headerTime st ∧ headerTime st ≤ 45 := by
  unfold LineSettings.InRange at range
  unfold headerTime
  omega

/-- A slot no longer than a header carries no frame (R15, R16). -/
theorem fits_eq_false_of_le_headerTime {st : LineSettings} {slotLength : Nat}
    (short : slotLength ≤ headerTime st) (kind : FrameKind) (length : Nat) :
    fits st kind length slotLength = false := by
  have longer := headerTime_le_maxFrameTime st kind length
  refine decide_eq_false fun fitting => ?_
  simp only [Config.guardBits] at fitting
  omega

/-- A data part has one gap fewer than characters, check included; R15 allows one for each. -/
theorem dataPart_le_allowance (length gap : Nat) :
    (length + 1) * 10 + length * gap ≤ (length + 1) * (10 + gap) := by
  rw [Nat.mul_add, Nat.succ_mul length gap]
  omega

theorem allowance_le {length gap bound : Nat} (short : length ≤ 12) (gapBound : gap ≤ bound) :
    (length + 1) * (10 + gap) ≤ 13 * (10 + bound) :=
  Nat.mul_le_mul (by omega) (by omega)

theorem frameKindOf_eq (c : DescriptorConfig) :
    frameKindOf c =
      if c.direction = .poll then .poll
      else if c.supply = .stored then .storedPush else .deferredPush := by
  unfold frameKindOf
  cases c.direction <;> cases c.supply <;> rfl

/-- R10 to R13: no frame takes longer than its maximum time. -/
theorem longestFrame_le_maxFrameTime (st : LineSettings) (length : Nat) :
    headerTime st + st.replySpace + (length + 1) * 10 + length * st.replyGap
        ≤ maxFrameTime st .poll length ∧
    headerTime st + st.pushSpace + (length + 1) * 10 + length * st.pushGap
        ≤ maxFrameTime st .storedPush length ∧
    headerTime st + st.supplyWindow + (length + 1) * 10 + length * st.pushGap
        ≤ maxFrameTime st .deferredPush length ∧
    headerTime st + st.pushSpace + 20 + st.pushGap ≤ maxFrameTime st .hush 1 := by
  have replyData := dataPart_le_allowance length st.replyGap
  have pushData := dataPart_le_allowance length st.pushGap
  simp only [maxFrameTime]
  omega

theorem maxFrameTime_le {st : LineSettings} {length : Nat} (range : st.InRange)
    (short : length ≤ 12) :
    maxFrameTime st .poll length ≤ 281 ∧ maxFrameTime st .storedPush length ≤ 221 ∧
    maxFrameTime st .deferredPush length ≤ 469 := by
  obtain ⟨-, header⟩ := headerTime_bounds range
  unfold LineSettings.InRange at range
  have replyData := allowance_le (gap := st.replyGap) (bound := 7) short (by omega)
  have pushData := allowance_le (gap := st.pushGap) (bound := 3) short (by omega)
  simp only [maxFrameTime]
  omega

/-- Every allowance of a frame at the greatest value of its range. -/
def greatestAllowances : LineSettings :=
  { LineSettings.initial with
    alert := 20, mark := 5, replySpace := 15, replyGap := 7, pushSpace := 7, pushGap := 3,
    supplyWindow := 255 }

/-- The alert at the least value of its range; the mark stands there at reset. -/
def leastHeader : LineSettings := { LineSettings.initial with alert := 12 }

theorem greatestAllowances_maxFrameTime :
    greatestAllowances.InRange ∧ maxFrameTime greatestAllowances .poll 12 = 281 ∧
    maxFrameTime greatestAllowances .storedPush 12 = 221 ∧
    maxFrameTime greatestAllowances .deferredPush 12 = 469 := by
  unfold LineSettings.InRange
  decide

theorem leastHeader_headerTime : leastHeader.InRange ∧ headerTime leastHeader = 34 := by
  unfold LineSettings.InRange
  decide

/-- Settles O8: R15's allowances, each of one gap more than its frame leaves, are greatest where every setting
is, and a header alone outlasts a slot of 8. -/
theorem maximumFrameTimes : Obligations.MaximumFrameTimes := by
  refine ⟨fun st length => ⟨rfl, rfl, rfl, rfl⟩, frameKindOf_eq, fun st length range _ short => ?_,
    ⟨greatestAllowances, greatestAllowances_maxFrameTime⟩, ⟨leastHeader, leastHeader_headerTime⟩⟩
  obtain ⟨poll, storedPush, deferredPush, hush⟩ := longestFrame_le_maxFrameTime st length
  obtain ⟨pollMax, storedMax, deferredMax⟩ := maxFrameTime_le range short
  obtain ⟨header, -⟩ := headerTime_bounds range
  exact ⟨poll, storedPush, deferredPush, hush, pollMax, storedMax, deferredMax, header,
    fun kind => fits_eq_false_of_le_headerTime (by omega) kind length⟩

end Sys2Proof.Machine
end

-- ==== Proofs: frame start ====
section
/-! The sequencer at a frame start (R18, R19). -/

namespace Sys2Proof.Machine

/-- Bytes laid over a buffer that holds them stand at its front. -/
theorem overlay_take {n : Nat} (bytes : List Byte) (buffer : Vector Byte n) (k : Nat)
    (front : k ≤ bytes.length) (room : bytes.length ≤ n) :
    (overlay bytes buffer).toList.take k = bytes.take k := by
  have shown : (overlay bytes buffer).toList =
      (bytes ++ buffer.toList.drop bytes.length).take n := rfl
  rw [shown, List.take_take, Nat.min_eq_left (front.trans room),
    List.take_append_of_le_length front]

/-- A stored push begins with every byte it sends and with its check (R19). -/
theorem Sequencer.beginDescriptor_storedPush (q : Sequencer) (source : FrameSource) (d : Fin 64)
    {v : Descriptor} (stored : frameKindOf v.config = .storedPush) :
    let body := headerBytes v ++ messageBytes v v.config.length
    q.beginDescriptor source d v =
      q.begin source (some d) .storedPush v.config.length (body ++ [crcFrom crcStart body])
        (crcFrom crcStart body) := by
  simp only [Sequencer.beginDescriptor, stored]

/-- Every other frame of a descriptor begins with its header alone (R19). -/
theorem Sequencer.beginDescriptor_header (q : Sequencer) (source : FrameSource) (d : Fin 64)
    {v : Descriptor} (other : frameKindOf v.config ≠ .storedPush) :
    q.beginDescriptor source d v =
      q.begin source (some d) (frameKindOf v.config) v.config.length (headerBytes v)
        (crcFrom crcStart (headerBytes v)) := by
  unfold Sequencer.beginDescriptor
  cases kind : frameKindOf v.config with
  | storedPush => exact absurd kind other
  | poll => rfl
  | deferredPush => rfl
  | hush => rfl

/-- Whatever its kind, a frame of a descriptor begins as R18 says, and with some bytes and some
check. -/
theorem Sequencer.beginDescriptor_eq (q : Sequencer) (source : FrameSource) (d : Fin 64)
    (v : Descriptor) : ∃ bytes check,
      q.beginDescriptor source d v =
        q.begin source (some d) (frameKindOf v.config) v.config.length bytes check := by
  by_cases stored : frameKindOf v.config = .storedPush
  · exact ⟨_, _, stored ▸ q.beginDescriptor_storedPush source d stored⟩
  · exact ⟨_, _, q.beginDescriptor_header source d stored⟩

theorem frameKindOf_ne_hush (c : DescriptorConfig) : frameKindOf c ≠ .hush := by
  unfold frameKindOf
  cases c.direction <;> cases c.supply <;> decide

theorem messageBytes_length (v : Descriptor) {length : Nat} (short : length ≤ 12) :
    (messageBytes v length).length = length := by
  simp [messageBytes, short]

/-- The header of a frame stands at the front of the transmit buffer from its start (R19). -/
theorem Sequencer.beginDescriptor_header_bytes (q : Sequencer) (source : FrameSource) (d : Fin 64)
    {v : Descriptor} (short : v.config.length ≤ 12) :
    (q.beginDescriptor source d v).txBuffer.toList.take 2 = headerBytes v := by
  have message := messageBytes_length v short
  by_cases stored : frameKindOf v.config = .storedPush
  · rw [q.beginDescriptor_storedPush source d stored]
    refine (overlay_take _ _ 2 (by simp [headerBytes]) ?_).trans rfl
    simp [headerBytes, message]; omega
  · rw [q.beginDescriptor_header source d stored]
    exact overlay_take _ _ 2 (by simp [headerBytes]) (by simp [headerBytes])

/-- A stored push holds its header, its data and its check from its start (R19). -/
theorem Sequencer.beginDescriptor_push_bytes (q : Sequencer) (source : FrameSource) (d : Fin 64)
    {v : Descriptor} (short : v.config.length ≤ 12) (stored : frameKindOf v.config = .storedPush) :
    let body := headerBytes v ++ messageBytes v v.config.length
    (q.beginDescriptor source d v).txBuffer.toList.take (v.config.length + 3) =
      body ++ [crcFrom crcStart body] := by
  intro body
  have size : (body ++ [crcFrom crcStart body]).length = v.config.length + 3 := by
    simp [body, headerBytes, messageBytes_length v short]
  rw [q.beginDescriptor_storedPush source d stored]
  exact (overlay_take _ _ _ size.ge (by omega)).trans (List.take_of_length_le size.le)

/-- The check of the hush frame stands from its start (R13). -/
theorem Sequencer.beginHush_check (q : Sequencer) : q.beginHush.runningCheck = 0xCA := by
  simp only [Sequencer.beginHush, Sequencer.begin]
  decide +kernel

/-- Settles O21: the fields are those of `begin` for every kind; the bytes laid over the transmit
buffer, at most 15, stand at its front. -/
theorem frameStart : Obligations.FrameStart := by
  refine ⟨fun q source d v short => ?_, fun q => ?_⟩
  · have header := q.beginDescriptor_header_bytes source d short
    have push := q.beginDescriptor_push_bytes source d short
    have stored := q.beginDescriptor_storedPush source d (v := v)
    have other := q.beginDescriptor_header source d (v := v)
    obtain ⟨bytes, check, fields⟩ := q.beginDescriptor_eq source d v
    refine ⟨?_, ?_, ?_, ?_, ?_, ?_, ?_, ?_, ?_, ?_, ?_, ?_, ?_, header,
      fun kind => ⟨by rw [stored kind]; rfl, push kind⟩, fun kind => by rw [other kind]; rfl⟩ <;>
      rw [fields] <;> rfl
  · exact ⟨rfl, rfl, rfl, rfl, rfl, rfl, rfl, rfl, rfl, rfl, rfl, rfl, rfl, q.beginHush_check,
      overlay_take hushBytes q.txBuffer 4 le_rfl (by decide)⟩

end Sys2Proof.Machine
end

-- ==== Proofs: the fields of a line controller ====
section
/-! The relations between the fields of a line controller (R17, R29, R80 to R82, R97, R110, R121):
which changes of a controller keep them. -/

namespace Sys2Proof.Machine

/-! ## Sequencers at rest -/

/-- A sequencer without a frame (R17): IDLE, and every field of a frame absent. -/
structure Sequencer.Resting (q : Sequencer) : Prop where
  idle          : q.frameState = .idle
  source        : q.source = none
  descriptor    : q.descriptor = none
  kind          : q.kind = none
  length        : q.length = none
  controlEnd    : q.controlEnd = none
  supplyRequest : q.supplyRequest = none

theorem Sequencer.resting_initial : Sequencer.initial.Resting :=
  ⟨rfl, rfl, rfl, rfl, rfl, rfl, rfl⟩

theorem Sequencer.Cleared.resting {q q' : Sequencer} (h : q.Cleared q') : q'.Resting :=
  ⟨h.idle, h.source, h.descriptor, h.kind, h.length, h.controlEnd, h.supplyRequest⟩

theorem LineController.Coherent.seq_resting {l : LineController} (h : l.Coherent)
    (idle : l.seq.frameState = .idle) : l.seq.Resting := by
  obtain ⟨source, descriptor, kind, length, controlEnd, supplyRequest⟩ := h.idleFields idle
  exact ⟨idle, source, descriptor, kind, length, controlEnd, supplyRequest⟩

/-! ## Frames of a coherent line -/

theorem LineController.Coherent.not_off {l : LineController} (h : l.Coherent)
    (active : l.monitor.active = true) : l.lineState ≠ .off := by
  intro off
  rw [(h.offMonitor off).1] at active
  exact Bool.noConfusion active

/-- No frame is in flight outside RUNNING and DRAINING (R80). -/
theorem LineController.Coherent.idle {l : LineController} (h : l.Coherent)
    (running : l.lineState ≠ .running) (draining : l.lineState ≠ .draining) :
    l.seq.frameState = .idle := by
  by_contra busy
  exact (h.frameState busy).elim running draining

theorem LineController.Coherent.inFlight_none {l : LineController} (h : l.Coherent)
    (idle : l.seq.frameState = .idle) : l.inFlight = none := by
  rw [h.inFlight, (h.idleFields idle).1]
  rfl

theorem LineController.Coherent.inFlight_none_of_source {l : LineController} (h : l.Coherent)
    (source : l.seq.source ≠ some .adHoc) : l.inFlight = none := by
  rw [h.inFlight, if_neg source]

theorem LineController.Coherent.supply_none {l : LineController} (h : l.Coherent)
    (other : l.seq.frameState ≠ .supplyWait) : l.seq.supplyRequest = none := by
  by_contra request
  exact other (h.supply request).1

/-- A line that runs or is held has no stop request (R97). -/
theorem LineController.Coherent.stop_false {l : LineController} (h : l.Coherent)
    (st : l.lineState = .running ∨ l.lineState = .held) : l.stopRequest = false := by
  by_contra stop
  have stopped := h.stopState (by simpa using stop)
  rcases st with st | st <;> simp [st] at stopped

/-- A frame in flight on a coherent line is a frame of a descriptor or a hush frame (R17, R18). -/
theorem State.frame_cases_of_coherent {s : State} {x : LineId} (h : (s.line x).Coherent)
    (busy : (s.line x).seq.frameState ≠ .idle) :
    (∃ d source kind, s.DescriptorFrame x d source kind) ∨ s.HushFrame x := by
  obtain ⟨bySource, byKind⟩ := h.hushFields busy
  obtain ⟨hasSource, hasKind, _⟩ := h.frameFields busy
  obtain ⟨source, isSource⟩ := Option.ne_none_iff_exists'.mp hasSource
  obtain ⟨kind, isKind⟩ := Option.ne_none_iff_exists'.mp hasKind
  cases descriptor : (s.line x).seq.descriptor with
  | none => exact .inr ⟨busy, bySource.mp descriptor, descriptor, byKind.mp descriptor⟩
  | some d =>
    refine .inl ⟨d, source, kind, busy, isSource, ?_, descriptor, isKind⟩
    rintro rfl
    exact Option.some_ne_none d (descriptor ▸ bySource.mpr isSource)

/-! ## Changes that keep a controller coherent -/

/-- The clock of a line moves: no relation speaks of it or of the counts it drives. -/
theorem LineController.Coherent.clocked {l : LineController} (h : l.Coherent)
    (time bits chars : Nat) : (l.clocked time bits chars).Coherent := { h with }

theorem LineController.Coherent.reach {l : LineController} (h : l.Coherent) (n : Nat) :
    (l.reach n).Coherent := by
  rw [LineController.reach_clocked]
  exact h.clocked _ _ _

/-- The monitor counts: phase, activity and the presence of a qualify count stand. -/
theorem LineController.Coherent.counted {l : LineController} (h : l.Coherent)
    (on : l.lineState ≠ .off) {m : Monitor} (active : m.active = true)
    (phase : m.wakePhase = l.monitor.wakePhase)
    (qualify : m.qualifyCount ≠ none → l.lineState = .asleep) (run : m.runCount ≤ 255) :
    { l with monitor := m }.Coherent :=
  { h with
    offMonitor := fun off => absurd off on
    monitored := fun _ => active
    wakePhase := by rw [phase]; exact h.wakePhase
    qualify := qualify
    runCount := run }

theorem LineController.Coherent.countPulse {l : LineController} (h : l.Coherent) :
    l.countPulse.Coherent := by
  unfold LineController.countPulse
  split
  · next pulse =>
    have waking : l.lineState = .waking := h.wakePhase.mp (by rw [pulse]; decide)
    have on : l.lineState ≠ .off := by rw [waking]; decide
    exact h.counted on (h.monitored on) rfl h.qualify h.runCount
  · exact h

/-- The frame in flight goes on in another frame state (R17): what started it stands, and a supply
request is made for its descriptor or is none (R29). -/
theorem LineController.Coherent.frame_goes_on {l : LineController} (h : l.Coherent) {q : Sequencer}
    (before : l.seq.frameState ≠ .idle) (after : q.frameState ≠ .idle)
    (source : q.source = l.seq.source) (descriptor : q.descriptor = l.seq.descriptor)
    (kind : q.kind = l.seq.kind) (length : q.length = l.seq.length)
    (supply : q.supplyRequest ≠ none →
      q.frameState = .supplyWait ∧ q.supplyRequest = q.descriptor) :
    { l with seq := q }.Coherent :=
  { h with
    frameState := fun _ => h.frameState before
    idleFields := fun idle => absurd idle after
    frameFields := fun _ => by rw [source, kind, length]; exact h.frameFields before
    hushFields := fun _ => by rw [source, descriptor, kind]; exact h.hushFields before
    supply := supply
    inFlight := by rw [source, descriptor]; exact h.inFlight }

/-- The sequencer comes to rest, and no ad-hoc request is in flight (R37, R110, R116). -/
theorem LineController.Coherent.comes_to_rest {l : LineController} (h : l.Coherent) {q : Sequencer}
    (rest : q.Resting) : { l with seq := q, inFlight := none }.Coherent :=
  { h with
    frameState := fun busy => absurd rest.idle busy
    idleFields := fun _ => ⟨rest.source, rest.descriptor, rest.kind, rest.length, rest.controlEnd,
      rest.supplyRequest⟩
    frameFields := fun busy => absurd rest.idle busy
    hushFields := fun busy => absurd rest.idle busy
    supply := fun request => absurd rest.supplyRequest request
    inFlight := by rw [rest.source]; rfl
    queue := ⟨h.queue.1, h.queue.2.1, nofun⟩ }

/-- The ad-hoc queue changes while nothing is in flight (R110). -/
theorem LineController.Coherent.with_queue {l : LineController} (h : l.Coherent)
    (idle : l.seq.frameState = .idle) {queue : List (Fin 64)} (room : queue.length ≤ 8)
    (distinct : queue.Nodup) : { l with queue := queue }.Coherent :=
  { h with queue := ⟨room, distinct, by simp [h.inFlight_none idle]⟩ }

/-- A frame starts on a line that has none (R18). -/
theorem LineController.Coherent.frame_starts {l : LineController} (h : l.Coherent)
    (runs : l.lineState = .running ∨ l.lineState = .draining) (q : Sequencer) (source : FrameSource)
    (d : Option (Fin 64)) (kind : FrameKind) (length : Nat) (bytes : List Byte) (check : Byte)
    (bySource : d = none ↔ source = .hush) (byKind : d = none ↔ kind = .hush)
    (inFlight : l.inFlight = if source = .adHoc then d else none) :
    { l with seq := q.begin source d kind length bytes check }.Coherent :=
  { h with
    frameState := fun _ => runs
    idleFields := fun idle => nomatch idle
    frameFields := fun _ => ⟨Option.some_ne_none _, Option.some_ne_none _, Option.some_ne_none _⟩
    hushFields := fun _ => ⟨bySource.trans Option.some_inj.symm, byKind.trans Option.some_inj.symm⟩
    supply := fun request => absurd rfl request
    inFlight := inFlight.trans (if_congr Option.some_inj.symm rfl rfl) }

/-! ## Lines between two frames -/

/-- A line between two frames, neither OFF nor asleep nor in a wake phase: what RUNNING and HELD ask
of its fields without a frame in flight. -/
structure LineController.Paused (l : LineController) : Prop where
  active    : l.active ≠ none
  monitored : l.monitor.active = true
  wakePhase : l.monitor.wakePhase = .none
  qualify   : l.monitor.qualifyCount = none
  runCount  : l.monitor.runCount ≤ 255
  seq       : l.seq.Resting
  inFlight  : l.inFlight = none
  queue     : l.queue.length ≤ 8 ∧ l.queue.Nodup

/-- RUNNING and HELD lines between two frames are coherent. -/
theorem LineController.Paused.coherent {l : LineController} (p : l.Paused)
    (st : l.lineState = .running ∨ l.lineState = .held) (stop : l.stopRequest = false) :
    l.Coherent := by
  have on : l.lineState ≠ .off := by rcases st with st | st <;> simp [st]
  have awake : l.lineState ≠ .waking := by rcases st with st | st <;> simp [st]
  have undrained : l.lineState ≠ .draining := by rcases st with st | st <;> simp [st]
  exact
    { offActive := iff_of_false on p.active
      offPending := fun off => absurd off on
      offMonitor := fun off => absurd off on
      monitored := fun _ => p.monitored
      stopState := fun stops => by simp [stop] at stops
      drainingStop := fun draining => absurd draining undrained
      resting := fun _ => st.elim .inl (fun held => .inr (.inr held))
      wakePhase := iff_of_false (fun phase => phase p.wakePhase) awake
      qualify := fun qualify => absurd p.qualify qualify
      runCount := p.runCount
      frameState := fun busy => absurd p.seq.idle busy
      idleFields := fun _ => ⟨p.seq.source, p.seq.descriptor, p.seq.kind, p.seq.length,
        p.seq.controlEnd, p.seq.supplyRequest⟩
      frameFields := fun busy => absurd p.seq.idle busy
      hushFields := fun busy => absurd p.seq.idle busy
      supply := fun request => absurd p.seq.supplyRequest request
      inFlight := by rw [p.inFlight, p.seq.source]; rfl
      queue := ⟨p.queue.1, p.queue.2, by simp [p.inFlight]⟩ }

/-- A line that is not OFF and has no frame in flight stands between two frames, once its monitor
has neither a wake phase nor a qualify count. -/
theorem LineController.Coherent.paused_with {l : LineController} (h : l.Coherent)
    (on : l.lineState ≠ .off) (idle : l.seq.frameState = .idle) {m : Monitor}
    (monitored : m.active = true) (wakePhase : m.wakePhase = .none)
    (qualify : m.qualifyCount = none) (runCount : m.runCount ≤ 255) :
    { l with monitor := m }.Paused where
  active none := on (h.offActive.mpr none)
  monitored := monitored
  wakePhase := wakePhase
  qualify := qualify
  runCount := runCount
  seq := h.seq_resting idle
  inFlight := h.inFlight_none idle
  queue := ⟨h.queue.1, h.queue.2.1⟩

theorem LineController.Coherent.qualify_none {l : LineController} (h : l.Coherent)
    (awake : l.lineState ≠ .asleep) : l.monitor.qualifyCount = none := by
  by_contra qualify
  exact awake (h.qualify qualify)

theorem LineController.Coherent.wakePhase_none {l : LineController} (h : l.Coherent)
    (other : l.lineState ≠ .waking) : l.monitor.wakePhase = .none := by
  by_contra phase
  exact other (h.wakePhase.mp phase)

theorem LineController.Coherent.paused {l : LineController} (h : l.Coherent)
    (idle : l.seq.frameState = .idle)
    (st : l.lineState = .running ∨ l.lineState = .draining ∨ l.lineState = .held) : l.Paused := by
  have on : l.lineState ≠ .off := by rintro off; simp [off] at st
  have awake : l.lineState ≠ .asleep := by rintro asleep; simp [asleep] at st
  have other : l.lineState ≠ .waking := by rintro waking; simp [waking] at st
  exact h.paused_with on idle (h.monitored on) (h.wakePhase_none other) (h.qualify_none awake)
    h.runCount

/-- The end of recovery leaves the line as between two frames (R128). -/
theorem LineController.Coherent.paused_of_recovered {l : LineController} (h : l.Coherent)
    (waking : l.lineState = .waking) (count : Nat) :
    { l with monitor := { l.monitor with wakePhase := .none, recoveryCount := count } }.Paused := by
  have on : l.lineState ≠ .off := by simp [waking]
  exact h.paused_with on (h.idle (by simp [waking]) (by simp [waking])) (h.monitored on) rfl
    (h.qualify_none (by simp [waking])) h.runCount

/-! ## State changes of a controller -/

/-- A line that goes OFF without a frame in flight is coherent (R84). -/
theorem LineController.wentOff_coherent {l : LineController} (rest : l.seq.Resting)
    (inFlight : l.inFlight = none) (queue : l.queue.length ≤ 8 ∧ l.queue.Nodup) :
    l.wentOff.Coherent where
  offActive := iff_of_true rfl rfl
  offPending _ := rfl
  offMonitor _ := ⟨rfl, rfl⟩
  monitored on := absurd rfl on
  stopState := nofun
  drainingStop := nofun
  resting moved := absurd rfl moved
  wakePhase := iff_of_false (fun phase => phase rfl) nofun
  qualify qualify := absurd rfl qualify
  runCount := Nat.zero_le _
  frameState busy := absurd rest.idle busy
  idleFields _ := ⟨rest.source, rest.descriptor, rest.kind, rest.length, rest.controlEnd,
    rest.supplyRequest⟩
  frameFields busy := absurd rest.idle busy
  hushFields busy := absurd rest.idle busy
  supply request := absurd rest.supplyRequest request
  inFlight := by
    have source : l.wentOff.seq.source = none := rest.source
    rw [source]
    exact inFlight
  queue := ⟨queue.1, queue.2, fun _ taken => nomatch inFlight.symm.trans taken⟩

theorem LineController.Paused.wentOff {l : LineController} (p : l.Paused) : l.wentOff.Coherent :=
  LineController.wentOff_coherent p.seq p.inFlight p.queue

theorem LineController.Coherent.wentOff {l : LineController} (h : l.Coherent)
    (idle : l.seq.frameState = .idle) : l.wentOff.Coherent :=
  LineController.wentOff_coherent (h.seq_resting idle) (h.inFlight_none idle)
    ⟨h.queue.1, h.queue.2.1⟩

theorem LineController.initial_coherent : LineController.initial.Coherent :=
  LineController.wentOff_coherent (l := .initial) Sequencer.resting_initial rfl ⟨by decide, .nil⟩

/-- Whatever it was before, a line is coherent after its reset (R101). -/
theorem LineController.resetFields_coherent (l : LineController) : l.resetFields.Coherent :=
  { LineController.wentOff_coherent (l := { l with queue := [], inFlight := none, seq := .initial })
      Sequencer.resting_initial rfl ⟨Nat.zero_le _, .nil⟩ with }

/-- START puts an OFF line between two frames, RUNNING and without a stop request (R96). -/
theorem LineController.Coherent.started {l : LineController} (h : l.Coherent)
    (off : l.lineState = .off) (k : Fin 8) (count : Count16) :
    { l.started with active := some k, cycleCount := count }.Paused ∧ l.stopRequest = false := by
  have idle := h.idle (by simp [off]) (by simp [off])
  refine ⟨?_, ?_⟩
  · exact ⟨nofun, rfl, rfl, rfl, Nat.zero_le _, h.seq_resting idle, h.inFlight_none idle,
      h.queue.1, h.queue.2.1⟩
  · by_contra stop
    simpa [off] using h.stopState (by simpa using stop)

/-- Step 2 or 3 of a boundary may change the schedule; there stays one (R94). -/
theorem LineController.Paused.changeSchedule {l : LineController} (p : l.Paused)
    (taken : Option (Fin 8)) (count : Count16) (position : Nat) (st : LineState) :
    { l with active := taken.or l.active, pending := none, cycleCount := count,
             slotIndex := position, lineState := st }.Paused :=
  { p with active := by cases taken <;> simp [p.active] }

/-- The line enters a wake phase from ASLEEP or FAULT (R126, R127, R133). -/
theorem LineController.Coherent.goes_waking {l : LineController} (h : l.Coherent)
    (st : l.lineState = .asleep ∨ l.lineState = .fault) {m : Monitor}
    (active : m.active = l.monitor.active) (phase : m.wakePhase ≠ .none)
    (qualify : m.qualifyCount = none) (run : m.runCount = l.monitor.runCount) :
    { l with lineState := .waking, monitor := m }.Coherent := by
  have on : l.lineState ≠ .off := by rintro off; simp [off] at st
  have idle : l.seq.frameState = .idle :=
    h.idle (by rintro running; simp [running] at st) (by rintro draining; simp [draining] at st)
  exact
    { h with
      offActive := iff_of_false nofun fun none => on (h.offActive.mpr none)
      offPending := nofun
      offMonitor := nofun
      monitored := fun _ => active.trans (h.monitored on)
      stopState := fun _ => .inr (.inr (.inl rfl))
      drainingStop := nofun
      resting := fun moved => absurd (h.resting moved) (by rcases st with st | st <;> simp [st])
      wakePhase := iff_of_true phase rfl
      qualify := fun some => absurd qualify some
      runCount := run.trans_le h.runCount
      frameState := fun busy => absurd idle busy }

/-- An idle line that is not OFF enters FAULT (R131). -/
theorem LineController.Coherent.goes_fault {l : LineController} (h : l.Coherent)
    (on : l.lineState ≠ .off) (idle : l.seq.frameState = .idle) (pulse : Nat) (hushOk : Bool) :
    { l with
      lineState := .fault, slotIndex := 0, hushOk := hushOk,
      monitor := { l.monitor with wakePhase := .none, qualifyCount := none,
                                  pulseCount := pulse } }.Coherent :=
  { h with
    offActive := iff_of_false nofun fun none => on (h.offActive.mpr none)
    offPending := nofun
    offMonitor := nofun
    monitored := fun _ => h.monitored on
    stopState := fun _ => .inr (.inr (.inr rfl))
    drainingStop := nofun
    resting := fun moved => absurd rfl moved
    wakePhase := iff_of_false (fun phase => phase rfl) nofun
    qualify := fun some => absurd rfl some
    frameState := fun busy => absurd idle busy }

/-- An idle line that was RUNNING or DRAINING goes to sleep (R124). -/
theorem LineController.Coherent.goes_asleep {l : LineController} (h : l.Coherent)
    (st : l.lineState = .running ∨ l.lineState = .draining) (idle : l.seq.frameState = .idle)
    (hushOk : Bool) :
    { l with lineState := .asleep, slotIndex := 0, hushOk := hushOk }.Coherent := by
  have on : l.lineState ≠ .off := by rintro off; simp [off] at st
  have awake : l.lineState ≠ .waking := by rintro waking; simp [waking] at st
  exact
    { h with
      offActive := iff_of_false nofun fun none => on (h.offActive.mpr none)
      offPending := nofun
      offMonitor := nofun
      monitored := fun _ => h.monitored on
      stopState := fun _ => .inr (.inl rfl)
      drainingStop := nofun
      resting := fun moved => absurd rfl moved
      wakePhase := iff_of_false (fun phase => phase (h.wakePhase_none awake)) nofun
      qualify := fun _ => rfl
      frameState := fun busy => absurd idle busy }

/-- A RUNNING line takes its stop request (R97). -/
theorem LineController.Coherent.goes_draining {l : LineController} (h : l.Coherent)
    (st : l.lineState = .running) :
    { l with stopRequest := true, lineState := .draining }.Coherent :=
  { h with
    offActive := iff_of_false nofun fun none => by simpa [st] using h.offActive.mpr none
    offPending := nofun
    offMonitor := nofun
    monitored := fun _ => h.monitored (by simp [st])
    stopState := fun _ => .inl rfl
    drainingStop := fun _ => rfl
    resting := fun _ => .inr (.inl rfl)
    wakePhase := iff_of_false (fun phase => phase (h.wakePhase_none (by simp [st]))) nofun
    qualify := fun some => absurd (h.qualify_none (by simp [st])) some
    frameState := fun _ => .inr rfl }

end Sys2Proof.Machine
end

-- ==== Proofs: line coherence in the runner ====
section
/-! What the shared operations of a line, frame starts and ends, slot starts and cycle boundaries,
make of the coherence of its controller. -/

namespace Sys2Proof.Machine

/-! ## Posts and clocks -/

@[simp] theorem State.postLine_line (s : State) (x y : LineId) (kind : EventKind)
    (index detail : Byte) : (s.postLine x kind index detail).line y = s.line y := by
  simp [State.postLine]

@[simp] theorem State.postLineChange_line (s : State) (x y : LineId) (index : Byte)
    (cause : Cause) :
    (s.postLineChange x index cause).line y = s.line y := by
  simp [State.postLineChange]

@[simp] theorem State.reach_line_same (s : State) (x : LineId) (n : Nat) :
    (s.reach x n).line x = (s.line x).reach n := by
  simp [State.reach]

@[simp] theorem State.stepCounter_line (s : State) (d : Option (Fin 64)) (y : LineId) :
    (s.stepCounter d).line y = s.line y := by
  cases d with
  | none => rfl
  | some d => exact s.setDesc_line d _ y

@[simp] theorem State.flushViews_line (s : State) (queue : List (Fin 64)) (y : LineId) :
    (s.flushViews queue).line y = s.line y := by
  induction queue generalizing s with
  | nil => rfl
  | cons d rest ih => exact (ih _).trans (s.setAdhoc_line d _ y)

/-! ## Frames -/

theorem State.FrameEnded.line_coherent {s t : State} {x : LineId} {d : Fin 64}
    {source : FrameSource} {kind : FrameKind} {o : FrameOutcome} {reply : List Byte}
    (h : (s.line x).Coherent) (frame : s.DescriptorFrame x d source kind)
    (ended : State.FrameEnded x d source kind o reply s t) : (t.line x).Coherent := by
  have request : (if source = .adHoc then none else (s.line x).inFlight) = none := by
    split
    · rfl
    · next other =>
      refine h.inFlight_none_of_source fun adHoc => other ?_
      exact Option.some_inj.mp (frame.2.1.symm.trans adHoc)
  rw [ended.line, request]
  exact { h.comes_to_rest ended.sequencer.resting with }

theorem State.HushEnded.line_coherent {s t : State} {x : LineId} {o : FrameOutcome}
    (h : (s.line x).Coherent) (frame : s.HushFrame x) (ended : State.HushEnded x o s t) :
    (t.line x).Coherent := by
  obtain ⟨-, source, -, -⟩ := frame
  have request : (s.line x).inFlight = none := h.inFlight_none_of_source (by simp [source])
  have rest := h.comes_to_rest ended.sequencer.resting
  rw [← request] at rest
  rw [ended.line]
  exact { rest with }

/-- A frame's end leaves its line coherent and IDLE (R37). -/
theorem State.endFrame_coherent {s : State} {x : LineId} (h : (s.line x).Coherent)
    (o : FrameOutcome) (reply : List Byte) :
    ((s.endFrame x o reply).line x).Coherent ∧
      ((s.endFrame x o reply).line x).seq.frameState = .idle := by
  by_cases idle : (s.line x).seq.frameState = .idle
  · rw [s.endFrame_idle x o reply idle]
    exact ⟨h, idle⟩
  · obtain ⟨d, source, kind, frame⟩ | frame := State.frame_cases_of_coherent h idle
    · have ended := s.endFrame_ended_now x d source kind o reply frame
      exact ⟨ended.line_coherent h frame, ended.sequencer.idle⟩
    · have ended := s.endFrame_hush_now x o reply frame
      exact ⟨ended.line_coherent h frame, ended.sequencer.idle⟩

theorem State.endFrame_reach_coherent {s : State} {x : LineId} (h : (s.line x).Coherent) (n : Nat)
    (o : FrameOutcome) (reply : List Byte) :
    (((s.reach x n).endFrame x o reply).line x).Coherent := by
  refine (State.endFrame_coherent ?_ o reply).1
  rw [State.reach_line_same]
  exact h.reach n

/-- A scheduled frame of a descriptor starts on an idle line (R18, R86). -/
theorem LineController.Coherent.descriptor_starts {l : LineController} (h : l.Coherent)
    (runs : l.lineState = .running ∨ l.lineState = .draining) (idle : l.seq.frameState = .idle)
    (slot : Fin 128) (d : Fin 64) (v : Descriptor) :
    { l with seq := l.seq.beginDescriptor (.scheduled slot) d v }.Coherent := by
  obtain ⟨bytes, check, fields⟩ := l.seq.beginDescriptor_eq (.scheduled slot) d v
  rw [fields]
  exact h.frame_starts runs _ _ _ _ _ _ _ (iff_of_false nofun nofun)
    (iff_of_false nofun (frameKindOf_ne_hush v.config)) (h.inFlight_none idle)

/-- The first request that fits leaves the queue and its frame starts (R114). -/
theorem LineController.Coherent.request_starts {l : LineController} (h : l.Coherent)
    (runs : l.lineState = .running ∨ l.lineState = .draining) (d : Fin 64) (v : Descriptor)
    {rest : List (Fin 64)} (queue : rest.length ≤ 8 ∧ rest.Nodup) (out : d ∉ rest) :
    { l with queue := rest, inFlight := some d,
             seq := l.seq.beginDescriptor .adHoc d v }.Coherent := by
  obtain ⟨bytes, check, fields⟩ := l.seq.beginDescriptor_eq .adHoc d v
  rw [fields]
  exact
    { h with
      frameState := fun _ => runs
      idleFields := nofun
      frameFields := fun _ => ⟨nofun, nofun, nofun⟩
      hushFields := fun _ => ⟨iff_of_false nofun nofun,
        iff_of_false nofun fun hush => frameKindOf_ne_hush v.config (Option.some_inj.mp hush)⟩
      supply := fun request => absurd rfl request
      inFlight := rfl
      queue := ⟨queue.1, queue.2, fun _ taken => Option.some_inj.mp taken ▸ out⟩ }

theorem LineController.Coherent.hush_starts {l : LineController} (h : l.Coherent)
    (runs : l.lineState = .running ∨ l.lineState = .draining) (idle : l.seq.frameState = .idle) :
    { l with seq := l.seq.beginHush }.Coherent :=
  h.frame_starts runs _ _ _ _ _ _ _ (iff_of_true rfl rfl) (iff_of_true rfl rfl)
    (h.inFlight_none idle)

/-! ## Slots -/

/-- An OPEN slot serves what is left of a queue without repetitions (R114). -/
theorem State.serve_coherent (x : LineId) (slotLength : Nat) (queue : List (Fin 64)) (s : State)
    (h : (s.line x).Coherent)
    (runs : (s.line x).lineState = .running ∨ (s.line x).lineState = .draining)
    (idle : (s.line x).seq.frameState = .idle) (room : queue.length ≤ 8) (distinct : queue.Nodup) :
    ((s.serve x slotLength queue).line x).Coherent := by
  induction queue generalizing s with
  | nil => simpa [State.serve] using h.with_queue idle room distinct
  | cons d rest ih =>
    obtain ⟨out, distinct⟩ := List.nodup_cons.mp distinct
    have room : rest.length ≤ 8 := by simp at room; omega
    unfold State.serve
    dsimp only
    split
    · simpa [State.startFrame] using h.request_starts runs d _ ⟨room, distinct⟩ out
    · refine ih _ ?_ (by simpa using runs) (by simpa using idle) room distinct
      simpa using h.with_queue idle room distinct

/-- The work of a slot begins on an idle line (R61, R86). -/
theorem State.slotWork_coherent {s : State} {x : LineId} (i : Fin 128) (h : (s.line x).Coherent)
    (runs : (s.line x).lineState = .running ∨ (s.line x).lineState = .draining)
    (idle : (s.line x).seq.frameState = .idle) : ((s.slotWork x i).line x).Coherent := by
  unfold State.slotWork
  dsimp only
  split
  case h_1 | h_2 => exact h
  case h_3 =>
    split
    · simpa [State.startFrame] using h.descriptor_starts runs idle i _ _
    · exact h
  case h_4 => simpa using h
  case h_5 => exact s.serve_coherent x _ _ h runs idle h.queue.1 h.queue.2.1
  case h_6 => simpa [State.startHush] using h.hush_starts runs idle

theorem State.beginSlot_coherent {s : State} {x : LineId} (t : Nat) (h : (s.line x).Coherent)
    (runs : (s.line x).lineState = .running ∨ (s.line x).lineState = .draining)
    (idle : (s.line x).seq.frameState = .idle) : ((s.beginSlot x t).line x).Coherent := by
  have begun : { (s.line x).setOrigin t with hushOk := false }.Coherent := { h with }
  unfold State.beginSlot
  dsimp only
  split
  · simpa using begun
  · split
    · exact State.slotWork_coherent _ (by simpa using begun)
        (by simpa [LineController.setOrigin] using runs)
        (by simpa [LineController.setOrigin] using idle)
    · simpa using begun

/-- A slot begins on a RUNNING line between two frames. -/
theorem State.beginSlot_of_paused {s : State} {x : LineId} (t : Nat) (p : (s.line x).Paused)
    (running : (s.line x).lineState = .running) (stop : (s.line x).stopRequest = false) :
    ((s.beginSlot x t).line x).Coherent :=
  State.beginSlot_coherent t (p.coherent (.inl running) stop) (.inl running) p.seq.idle

/-! ## Cycle boundaries -/

theorem State.goOff_coherent {s : State} {x : LineId} (cause : Cause)
    (h : (s.line x).wentOff.Coherent) : ((s.goOff x cause).line x).Coherent := by
  simpa [State.goOff] using h

/-- A boundary leaves a line between two frames coherent: OFF, HELD, or RUNNING in slot 0 (R94). -/
theorem State.boundary_coherent {s : State} {x : LineId} (t : Nat) (followOns : Bool)
    (cause : Cause) (p : (s.line x).Paused) :
    ((s.boundary x t followOns cause).line x).Coherent := by
  have effect := s.boundary_effect x t followOns cause
  unfold State.BoundaryEffect at effect
  dsimp only at effect
  split at effect
  · rw [effect]
    simpa using p.wentOff
  · next going =>
    have stop : (s.line x).stopRequest = false := by
      simpa using fun stop => going (.inl stop)
    split at effect
    · rw [effect]
      simpa using (p.changeSchedule _ _ 0 .held).coherent (.inr rfl) stop
    · split at effect
      · next running =>
        rw [effect]
        refine State.beginSlot_of_paused t ?_ (by simpa using running) (by simpa using stop)
        simpa using p.changeSchedule _ _ 0 _
      · rw [effect]
        refine State.beginSlot_of_paused t ?_ (by simp) (by simpa using stop)
        simpa using p.changeSchedule _ _ 0 .running

theorem State.release_coherent {s : State} {x : LineId} (h : (s.line x).Coherent)
    (held : (s.line x).lineState = .held) : ((s.release x).line x).Coherent := by
  have idle := h.idle (by simp [held]) (by simp [held])
  have p := h.paused idle (.inr (.inr held))
  unfold State.release
  dsimp only
  split
  · exact State.boundary_coherent _ _ _ p
  · have stop := h.stop_false (.inr held)
    rw [State.goRunning_eq]
    refine State.beginSlot_of_paused _ ?_ (by simp) (by simpa using stop)
    have running : { s.line x with lineState := .running }.Paused := { p with }
    simpa using running

theorem State.holdChanged_coherent {s : State} {x : LineId} (before : Bool)
    (h : (s.line x).Coherent) : ((s.holdChanged x before).line x).Coherent := by
  unfold State.holdChanged
  split
  · next released => exact State.release_coherent h released.1
  · exact h

theorem State.endSlot_coherent {s : State} {x : LineId} (k : Fin 8) (t : Nat)
    (h : (s.line x).Coherent)
    (runs : (s.line x).lineState = .running ∨ (s.line x).lineState = .draining)
    (idle : (s.line x).seq.frameState = .idle) : ((s.endSlot x k t).line x).Coherent := by
  have p := h.paused idle (by tauto)
  unfold State.endSlot
  dsimp only
  split
  · simpa [State.goAsleep] using h.goes_asleep runs idle false
  · split
    · have counted : { s.line x with cycleCount := (s.line x).cycleCount + 1 }.Paused := { p with }
      exact State.boundary_coherent t true .recovered (by simpa [State.countCycle] using counted)
    · split
      · next hold =>
        obtain ⟨running, _, _⟩ := hold
        have stop := h.stop_false (.inl running)
        have held : ∀ position,
            { s.line x with lineState := .held, slotIndex := position }.Paused :=
          fun _ => { p with }
        simpa [State.goHeld] using (held _).coherent (.inr rfl) stop
      · have next' : { s.line x with slotIndex := (s.line x).slotIndex + 1 }.Coherent :=
          { h with resting := fun _ => runs.elim .inl (fun draining => .inr (.inl draining)) }
        exact State.beginSlot_coherent t (by simpa using next') (by simpa using runs)
          (by simpa using idle)

end Sys2Proof.Machine
end

-- ==== Proofs: line coherence at every step ====
section
/-! Every step keeps both controllers coherent, and the pin follows from their fields. -/

namespace Sys2Proof.Machine

/-! ## The events of a frame -/

/-- The frame in flight goes on at an instant of its line. -/
theorem State.setSeq_reach_coherent {s : State} {x : LineId} (h : (s.line x).Coherent) (n : Nat)
    {q : Sequencer} (before : (s.line x).seq.frameState ≠ .idle) (after : q.frameState ≠ .idle)
    (source : q.source = (s.line x).seq.source)
    (descriptor : q.descriptor = (s.line x).seq.descriptor)
    (kind : q.kind = (s.line x).seq.kind) (length : q.length = (s.line x).seq.length)
    (supply : q.supplyRequest ≠ none →
      q.frameState = .supplyWait ∧ q.supplyRequest = q.descriptor) :
    (((s.reach x n).setSeq x q).line x).Coherent := by
  have reached := (h.reach n).frame_goes_on (q := q) (by simpa using before) after
    (by simpa using source) (by simpa using descriptor) (by simpa using kind)
    (by simpa using length) supply
  simpa using reached

theorem State.alertEnds_coherent {s : State} {x : LineId} (h : (s.line x).Coherent) :
    ((s.alertEnds x).line x).Coherent := by
  unfold State.alertEnds
  dsimp only
  split
  · next alert =>
    have supply := h.supply_none (by simp [alert])
    apply State.setSeq_reach_coherent h <;> simp [alert, supply]
  · exact h

theorem State.markEnds_coherent {s : State} {x : LineId} (h : (s.line x).Coherent) :
    ((s.markEnds x).line x).Coherent := by
  unfold State.markEnds
  dsimp only
  split
  · next mark =>
    have supply := h.supply_none (by simp [mark])
    apply State.setSeq_reach_coherent h <;> simp [mark, supply]
  · exact h

theorem stateAfterHeader_ne_idle (kind : FrameKind) : stateAfterHeader kind ≠ .idle := by
  cases kind <;> decide

/-- The control end makes a supply request for a deferred push alone (R29). -/
theorem Sequencer.headerSent_supply {q : Sequencer}
    (unrequested : q.supplyRequest = none) (st : LineSettings) (kind : FrameKind)
    (request : (q.headerSent st kind).supplyRequest ≠ none) :
    (q.headerSent st kind).frameState = .supplyWait ∧
      (q.headerSent st kind).supplyRequest = (q.headerSent st kind).descriptor := by
  cases kind with
  | deferredPush => exact ⟨rfl, rfl⟩
  | poll | storedPush | hush => exact absurd unrequested request

theorem State.controlEnds_coherent {s : State} {x : LineId} (h : (s.line x).Coherent) :
    ((s.controlEnds x).line x).Coherent := by
  unfold State.controlEnds
  dsimp only
  split
  · next kind header isKind =>
    have supply := h.supply_none (by simp [header])
    have sent : ∀ n, (((s.reach x n).setSeq x
        (((s.reach x n).line x).seq.headerSent (s.line x).settings kind)).line x).Coherent := by
      intro n
      have unrequested : ((s.reach x n).line x).seq.supplyRequest = none := by simpa using supply
      refine State.setSeq_reach_coherent h n (by simp [header]) (stateAfterHeader_ne_idle kind)
        ?_ ?_ ?_ ?_ (Sequencer.headerSent_supply unrequested _ kind) <;> simp [Sequencer.headerSent]
    split <;> simpa using sent _
  · exact h

theorem State.compareBit_coherent {s : State} {x : LineId} (h : (s.line x).Coherent) (bit : Nat)
    (samples : Samples) : ((s.compareBit x bit samples).line x).Coherent := by
  unfold State.compareBit
  dsimp only
  split
  · split
    · simpa using h.reach _
    · exact State.endFrame_reach_coherent h _ _ _
  · exact h

theorem State.judgeStart_coherent {s : State} {x : LineId} (h : (s.line x).Coherent)
    (waits : (s.line x).seq.frameState = .replyWait ∨ (s.line x).seq.frameState = .reply)
    (edge deadline : Nat) (samples : Samples) (late : FrameOutcome) :
    ((s.judgeStart x edge deadline samples late).line x).Coherent := by
  have busy : (s.line x).seq.frameState ≠ .idle := by rcases waits with w | w <;> simp [w]
  have supply := h.supply_none (by rcases waits with w | w <;> simp [w])
  unfold State.judgeStart
  dsimp only
  split
  · apply State.setSeq_reach_coherent h <;> simp [busy, supply]
  · split
    · exact State.endFrame_reach_coherent h _ _ _
    · apply State.setSeq_reach_coherent h <;> simp [busy, supply]

theorem Sequencer.looking_frameState {q : Sequencer} (looks : q.looking = true) :
    q.frameState = .replyWait ∨ q.frameState = .reply := by
  unfold Sequencer.looking at looks
  split at looks
  · next wait => exact .inl wait
  · next reply => exact .inr reply
  · exact Bool.noConfusion looks

theorem State.startBit_coherent {s : State} {x : LineId} (h : (s.line x).Coherent) (edge : Nat)
    (samples : Samples) : ((s.startBit x edge samples).line x).Coherent := by
  unfold State.startBit
  dsimp only
  split
  · next taken =>
    have waits := Sequencer.looking_frameState taken.1
    split <;> exact State.judgeStart_coherent h waits _ _ _ _
  · exact h

theorem State.character_coherent {s : State} {x : LineId} (h : (s.line x).Coherent)
    (bits : BitVec 9) : ((s.character x bits).line x).Coherent := by
  unfold State.character
  dsimp only
  split
  · next reply _ =>
    have supply := h.supply_none (by simp [reply])
    split
    · apply State.setSeq_reach_coherent h <;> simp [Sequencer.takeCharacter, reply, supply]
    · exact State.endFrame_reach_coherent h _ _ _
  · exact h

theorem State.replySpaceEnds_coherent {s : State} {x : LineId} (h : (s.line x).Coherent) :
    ((s.replySpaceEnds x).line x).Coherent := by
  unfold State.replySpaceEnds
  dsimp only
  split
  · exact State.endFrame_reach_coherent h _ _ _
  · exact h

theorem State.replyGapEnds_coherent {s : State} {x : LineId} (h : (s.line x).Coherent) :
    ((s.replyGapEnds x).line x).Coherent := by
  unfold State.replyGapEnds
  dsimp only
  split
  · exact State.endFrame_reach_coherent h _ _ _
  · exact h

theorem State.compareCheck_coherent {s : State} {x : LineId} (h : (s.line x).Coherent) :
    ((s.compareCheck x).line x).Coherent := by
  unfold State.compareCheck
  dsimp only
  split
  · split <;> exact State.endFrame_reach_coherent h _ _ _
  · exact h

theorem State.windowEnds_coherent {s : State} {x : LineId} (h : (s.line x).Coherent) :
    ((s.windowEnds x).line x).Coherent := by
  unfold State.windowEnds
  dsimp only
  split
  · exact State.endFrame_reach_coherent h _ _ _
  · exact h

theorem State.pushSpaceEnds_coherent {s : State} {x : LineId} (h : (s.line x).Coherent) :
    ((s.pushSpaceEnds x).line x).Coherent := by
  unfold State.pushSpaceEnds
  dsimp only
  split
  · next space =>
    have supply := h.supply_none (by simp [space])
    apply State.setSeq_reach_coherent h <;> simp [space, supply]
  · exact h

theorem State.pushEnds_coherent {s : State} {x : LineId} (h : (s.line x).Coherent) :
    ((s.pushEnds x).line x).Coherent := by
  unfold State.pushEnds
  dsimp only
  split
  · exact State.endFrame_reach_coherent h _ _ _
  · exact h

/-! ## The events of the runner and of the monitor -/

theorem State.slotEnds_coherent {s : State} {x : LineId} (h : (s.line x).Coherent) :
    ((s.slotEnds x).line x).Coherent := by
  unfold State.slotEnds
  dsimp only
  split
  · next runs =>
    obtain ⟨runs, idle⟩ := runs
    split
    · exact State.endSlot_coherent _ _ (by simpa using h.reach _) (by simpa using runs)
        (by simpa using idle)
    · exact h
  · exact h

theorem State.samplePin_coherent {s : State} {x : LineId} (h : (s.line x).Coherent)
    (reading : PinLevel) : ((s.samplePin x reading).line x).Coherent := by
  unfold State.samplePin
  dsimp only
  split
  · exact h
  · rw [State.setLine_line_same]
    exact { (h.reach _).countPulse with }

theorem State.levelChanges_coherent {s : State} {x : LineId} (h : (s.line x).Coherent) :
    ((s.levelChanges x).line x).Coherent := by
  unfold State.levelChanges
  dsimp only
  split
  · next due =>
    have on : (s.line x).lineState ≠ .off := by
      unfold LineController.levelDue at due
      rintro off
      simp [off] at due
    refine State.holdChanged_coherent _ ?_
    rw [State.setLine_line_same]
    exact { h with offMonitor := fun off => absurd off on }
  · exact h

theorem State.setHoldFlag_coherent {s : State} {x : LineId} (h : (s.line x).Coherent) (v : Bool) :
    ((s.setHoldFlag x v).line x).Coherent := by
  refine State.holdChanged_coherent _ ?_
  rw [State.setLine_line_same]
  exact { h with }

/-- A judged bit time leaves activity and wake phase, counts the run to 255 at most, and qualifies
in ASLEEP alone (R122, R126). -/
theorem LineController.Coherent.judged {l : LineController} (h : l.Coherent)
    (on : l.lineState ≠ .off) (st : LineSettings) {now : LineState} (same : now = l.lineState)
    (level : Level) : { l with monitor := l.monitor.judged st now level }.Coherent := by
  subst same
  have counted : (l.monitor.counted level).active = l.monitor.active ∧
      (l.monitor.counted level).wakePhase = l.monitor.wakePhase ∧
      (l.monitor.counted level).runCount ≤ 255 := by
    cases level
    · exact ⟨rfl, rfl, Nat.min_le_left _ _⟩
    · exact ⟨rfl, rfl, Nat.zero_le _⟩
  obtain ⟨active, phase, run⟩ := counted
  refine h.counted on (active.trans (h.monitored on)) phase (fun qualify => ?_) run
  by_contra awake
  exact qualify ((if_neg awake).trans (h.qualify_none awake))

theorem State.judgeBit_coherent {s : State} {x : LineId} (h : (s.line x).Coherent)
    (samples : Samples) : ((s.judgeBit x samples).line x).Coherent := by
  unfold State.judgeBit
  dsimp only
  split
  · next active =>
    have on := h.not_off active
    have judged := ((h.reach ((s.line x).nextJudged * (s.line x).settings.divisor
      + thirdSample (s.line x).settings.divisor)).countPulse).judged (by simpa using on)
      (s.line x).settings (now := (s.line x).lineState) (by simp) (majority samples)
    rw [State.setLine_line_same]
    exact { judged with }
  · exact h

theorem State.reportStuck_coherent {s : State} {x : LineId} (h : (s.line x).Coherent) :
    ((s.reportStuck x).line x).Coherent := by
  unfold State.reportStuck
  dsimp only
  split
  · next due =>
    have on : (s.line x).lineState ≠ .off := by
      refine h.not_off ?_
      simp only [LineController.stuckDue, Bool.and_eq_true] at due
      exact due.1.1
    have reported : (((s.setMonitor x
        { (s.line x).monitor with stuckReported := true }).line x)).Coherent := by
      rw [State.setMonitor_line_same]
      exact h.counted on (h.monitored on) rfl h.qualify h.runCount
    split
    · exact reported
    · obtain ⟨ended, idle⟩ := State.endFrame_coherent reported .lineStuck []
      have still := State.endFrame_line (s.setMonitor x
        { (s.line x).monitor with stuckReported := true }) x .lineStuck []
      have on' : (((s.setMonitor x { (s.line x).monitor with stuckReported := true }).endFrame x
          .lineStuck []).line x).lineState ≠ .off := by
        rw [still]
        simpa using on
      simpa [State.enterFault] using ended.goes_fault on' idle 0 false
  · exact h

theorem State.goWaking_coherent {s : State} {x : LineId} (h : (s.line x).Coherent)
    (st : (s.line x).lineState = .asleep ∨ (s.line x).lineState = .fault) {m : Monitor}
    (active : m.active = (s.line x).monitor.active) (phase : m.wakePhase ≠ .none)
    (qualify : m.qualifyCount = none) (run : m.runCount = (s.line x).monitor.runCount)
    (cause : Cause) : ((s.goWaking x m cause).line x).Coherent := by
  simpa [State.goWaking] using h.goes_waking st active phase qualify run

theorem State.wakeRemotely_coherent {s : State} {x : LineId} (h : (s.line x).Coherent) :
    ((s.wakeRemotely x).line x).Coherent := by
  unfold State.wakeRemotely
  dsimp only
  split
  · next asleep =>
    exact State.goWaking_coherent h (.inl asleep.1) (by rfl) (by simp) (by rfl) (by rfl) _
  · exact h

theorem State.pulseEnds_coherent {s : State} {x : LineId} (h : (s.line x).Coherent) :
    ((s.pulseEnds x).line x).Coherent := by
  unfold State.pulseEnds
  dsimp only
  split
  · next pulse =>
    obtain ⟨waking, phase⟩ := pulse
    rw [State.setMonitor_line_same, State.reach_line_same]
    exact
      { h.reach _ with
        offMonitor := fun off => by simp [waking] at off
        wakePhase := iff_of_true nofun waking }
  · exact h

theorem State.recoveryEnds_coherent {s : State} {x : LineId} (h : (s.line x).Coherent) :
    ((s.recoveryEnds x).line x).Coherent := by
  unfold State.recoveryEnds
  dsimp only
  split
  · next recovered =>
    have waking : (s.line x).lineState = .waking := by
      simp only [LineController.recovered, Bool.and_eq_true, beq_iff_eq] at recovered
      exact recovered.1.1
    refine State.boundary_coherent _ _ _ ?_
    have p := (h.reach ((s.line x).bitsJudged * (s.line x).settings.divisor)).paused_of_recovered
      (by simpa using waking) 0
    simp only [State.countCycle, State.setLine_line_same, State.setMonitor_line_same,
      State.reach_line_same]
    exact { p with }
  · exact h

/-! ## Both lines -/

/-- The work of one line keeps both controllers coherent when it keeps its own. -/
theorem State.LineWork.linesCoherent {s t : State} {x : LineId} (work : State.LineWork x s t)
    (h : s.LinesCoherent) (own : (t.line x).Coherent) : t.LinesCoherent := by
  intro y
  by_cases same : y = x
  · exact same ▸ own
  · rw [work.other y same]
    exact h y

theorem State.LinesCoherent.setLine {s : State} (h : s.LinesCoherent) (x : LineId)
    {l : LineController} (own : l.Coherent) : (s.setLine x l).LinesCoherent := by
  intro y
  rw [State.setLine_line]
  split
  · exact own
  · exact h y

theorem State.LinesCoherent.of_line_eq {s t : State} (h : s.LinesCoherent)
    (same : ∀ x, t.line x = s.line x) : t.LinesCoherent := fun x => same x ▸ h x

theorem State.LinesCoherent.complete {s : State} (h : s.LinesCoherent) (a : Answer) :
    (s.complete a).LinesCoherent := h.of_line_eq (s.complete_line a)

theorem State.LinesCoherent.completeFree {s : State} (h : s.LinesCoherent) (r : Result) :
    (s.completeFree r).LinesCoherent := h.of_line_eq (s.completeFree_line r)

theorem State.LinesCoherent.setEvents {s : State} (h : s.LinesCoherent) (e : EventUnit) :
    (s.setEvents e).LinesCoherent := h.of_line_eq (s.setEvents_line e)

theorem State.reset_linesCoherent : State.reset.LinesCoherent := by
  intro x
  cases x <;> exact LineController.initial_coherent

/-! ## Line commands -/

theorem State.LinesCoherent.takeStart {s : State} (h : s.LinesCoherent) (x : LineId) (k : Fin 8) :
    (s.takeStart x k).LinesCoherent := by
  unfold State.takeStart
  split
  · next off =>
    split
    · exact h.complete _
    · refine ((s.lineWork_startLine x k).linesCoherent h ?_).complete _
      obtain ⟨p, stop⟩ := (h x).started off k 0
      have running : { (s.line x).started with
          active := some k, cycleCount := 0, lineState := .running }.Paused := { p with }
      refine State.beginSlot_of_paused _ ?_ ?_ ?_ <;>
        simp only [State.goRunning_eq, State.takeSchedule_eq, State.posted_line,
          State.setLine_line_same]
      · exact running
      · exact stop
  · exact h.complete _

theorem State.LinesCoherent.goOff {s : State} (h : s.LinesCoherent) (x : LineId) (cause : Cause)
    (idle : (s.line x).seq.frameState = .idle) : (s.goOff x cause).LinesCoherent :=
  (s.lineWork_goOff x cause).linesCoherent h (State.goOff_coherent cause ((h x).wentOff idle))

theorem State.LinesCoherent.endFrame {s : State} (h : s.LinesCoherent) (x : LineId)
    (o : FrameOutcome) (reply : List Byte) : (s.endFrame x o reply).LinesCoherent :=
  (s.lineWork_endFrame x o reply).linesCoherent h (State.endFrame_coherent (h x) o reply).1

theorem State.LinesCoherent.takeStopEnd {s : State} (h : s.LinesCoherent) (x : LineId) :
    (s.takeStopEnd x).LinesCoherent := by
  unfold State.takeStopEnd
  split
  case h_1 | h_3 => exact h.completeFree _
  case h_2 running =>
    refine State.LinesCoherent.completeFree ?_ _
    exact (h.setLine x ((h x).goes_draining running)).of_line_eq fun y =>
      State.postLineChange_line _ x y _ _
  case h_4 waking =>
    refine (h.setLine x ?_).completeFree _
    exact
      { h x with
        stopState := fun _ => .inr (.inr (.inl waking))
        drainingStop := fun _ => rfl }
  case h_5 st | h_6 st | h_7 st =>
    exact (h.goOff x _ ((h x).idle (by simp [st]) (by simp [st]))).completeFree _

theorem State.LinesCoherent.takeStopNow {s : State} (h : s.LinesCoherent) (x : LineId) :
    (s.takeStopNow x).LinesCoherent := by
  unfold State.takeStopNow
  split
  · exact h.complete _
  · exact ((h.endFrame x .cancelled []).goOff x _
      (State.endFrame_coherent (h x) .cancelled []).2).complete _

theorem State.LinesCoherent.takeSwitch {s : State} (h : s.LinesCoherent) (x : LineId) (k : Fin 8) :
    (s.takeSwitch x k).LinesCoherent := by
  unfold State.takeSwitch
  split
  · next takes =>
    split
    · exact h.complete _
    · refine (h.setLine x ?_).complete _
      have on : (s.line x).lineState ≠ .off := by
        rintro off
        simp [off, LineState.takesSwitch] at takes
      exact { h x with offPending := fun off => absurd off on }
  · exact h.complete _

theorem State.LinesCoherent.setHoldFlag {s : State} (h : s.LinesCoherent) (x : LineId) (v : Bool) :
    (s.setHoldFlag x v).LinesCoherent :=
  (s.lineWork_setHoldFlag x v).linesCoherent h (State.setHoldFlag_coherent (h x) v)

/-- A command that wakes a line does so on a new origin (R127, R133). -/
theorem State.LinesCoherent.goWaking {s : State} (h : s.LinesCoherent) (x : LineId) (t : Nat)
    (st : (s.line x).lineState = .asleep ∨ (s.line x).lineState = .fault) {m : Monitor}
    (active : m.active = (s.line x).monitor.active) (phase : m.wakePhase ≠ .none)
    (qualify : m.qualifyCount = none) (run : m.runCount = (s.line x).monitor.runCount)
    (cause : Cause) :
    ((s.setLine x ((s.line x).setOrigin t)).goWaking x m cause).LinesCoherent := by
  have moved := h.setLine x (l := (s.line x).setOrigin t) { h x with }
  refine (State.lineWork_goWaking _ x m cause).linesCoherent moved ?_
  exact State.goWaking_coherent (moved x) (by simpa [LineController.setOrigin] using st)
    (by simpa [LineController.setOrigin] using active) phase qualify
    (by simpa [LineController.setOrigin] using run) cause

theorem State.LinesCoherent.takeWake {s : State} (h : s.LinesCoherent) (x : LineId) :
    (s.takeWake x).LinesCoherent := by
  unfold State.takeWake
  dsimp only
  split
  · next asleep =>
    exact (h.goWaking x _ (.inl asleep) (by rfl) (by simp) (by rfl) (by rfl) _).complete _
  · exact h.complete _

theorem State.LinesCoherent.takeClearFault {s : State} (h : s.LinesCoherent) (x : LineId) :
    (s.takeClearFault x).LinesCoherent := by
  unfold State.takeClearFault
  dsimp only
  split
  · next fault =>
    split
    · exact h.complete _
    · have unqualified := (h x).qualify_none (by simp [fault])
      exact (h.goWaking x _ (.inr fault) (by rfl) (by simp) (by exact unqualified) (by rfl)
        _).complete _
  · exact h.complete _

theorem State.LinesCoherent.resetLine {s : State} (h : s.LinesCoherent) (x : LineId) :
    (s.resetLine x).LinesCoherent := by
  unfold State.resetLine
  dsimp only
  refine State.LinesCoherent.setEvents (State.LinesCoherent.setLine ?_ x ?_) _
  · exact (h.endFrame x .cancelled []).of_line_eq (by simp)
  · exact LineController.resetFields_coherent _

theorem State.LinesCoherent.takeSupply {s : State} (h : s.LinesCoherent) (x : LineId) (d : Fin 64) :
    (s.takeSupply x d).LinesCoherent := by
  unfold State.takeSupply
  dsimp only
  split
  · next wait =>
    split
    · split
      · refine (h.setLine x ?_).complete _
        refine (h x).frame_goes_on (by simp [wait]) ?_ ?_ ?_ ?_ ?_ ?_ <;>
          unfold Sequencer.supplied <;> dsimp only <;> split <;> simp
      · exact h.complete _
    · exact h.complete _
  · exact h.complete _

/-- What ENQUEUE has checked of the queue when it accepts (R111). -/
theorem State.enqueueRefusal_none {s : State} {x : LineId} {d : Fin 64}
    (passes : s.enqueueRefusal x d = none) :
    d ∉ (s.line x).queue ∧ (s.line x).inFlight ≠ some d ∧ (s.line x).queue.length < 8 := by
  simp only [State.enqueueRefusal, Config.adhocCapacity, ite_eq_iff, reduceCtorEq, and_false,
    false_or] at passes
  obtain ⟨_, _, unqueued, grounded, room⟩ := passes
  refine ⟨unqueued, grounded, ?_⟩
  by_contra full
  simp [not_lt.mp full] at room

theorem State.LinesCoherent.takeEnqueue {s : State} (h : s.LinesCoherent) (x : LineId)
    (d : Fin 64) : (s.takeEnqueue x d).LinesCoherent := by
  unfold State.takeEnqueue
  split
  · exact h.complete _
  · next passes =>
    obtain ⟨unqueued, grounded, room⟩ := State.enqueueRefusal_none passes
    obtain ⟨_, distinct, apart⟩ := (h x).queue
    have longer : { s.line x with queue := (s.line x).queue ++ [d] }.Coherent :=
      { h x with
        queue := by
          refine ⟨by simp; omega, List.nodup_append_comm.mp ?_, fun e flight => ?_⟩
          · exact List.nodup_cons.mpr ⟨unqueued, distinct⟩
          · have other : e ≠ d := fun same => grounded (same ▸ flight)
            simpa [other] using apart e flight }
    exact ((h.setLine x longer).of_line_eq (by simp)).complete _

theorem State.LinesCoherent.takeCancel {s : State} (h : s.LinesCoherent) (x : LineId)
    (d : Fin 64) : (s.takeCancel x d).LinesCoherent := by
  unfold State.takeCancel
  dsimp only
  split
  · obtain ⟨room, distinct, apart⟩ := (h x).queue
    have shorter : { s.line x with queue := (s.line x).queue.erase d }.Coherent :=
      { h x with
        queue := ⟨List.length_erase_le.trans room, distinct.erase d,
          fun e flight queued => apart e flight (List.mem_of_mem_erase queued)⟩ }
    exact ((h.setLine x shorter).of_line_eq (by simp)).complete _
  · exact h.complete _

/-! ## Tables and registers -/

theorem State.LinesCoherent.with_settings {s : State} (h : s.LinesCoherent) (x : LineId)
    (st : LineSettings) : (s.setLine x { s.line x with settings := st }).LinesCoherent :=
  h.setLine x { h x with }

theorem State.commitDescriptor_line (s : State) (d : Fin 64) (w : Window) (y : LineId) :
    (s.commitDescriptor d w).1.line y = s.line y := by
  unfold State.commitDescriptor
  split <;> simp

theorem State.commitSlot_line (s : State) (i : Fin 128) (w : Window) (y : LineId) :
    (s.commitSlot i w).1.line y = s.line y := by
  unfold State.commitSlot
  split
  · rfl
  · split <;> simp

theorem State.commitDirectory_line (s : State) (k : Fin 8) (w : Window) (y : LineId) :
    (s.commitDirectory k w).1.line y = s.line y := by
  unfold State.commitDirectory
  split
  · rfl
  · split <;> simp

theorem State.commitNode_line (s : State) (n : Fin 32) (w : Window) (y : LineId) :
    (s.commitNode n w).1.line y = s.line y := by
  unfold State.commitNode
  split
  · rfl
  · dsimp only
    split
    · split <;> simp
    · simp

/-- A COMMIT writes a table, which is no part of a controller, or the settings, which no relation of
its fields speaks of. -/
theorem State.LinesCoherent.commitPort {s : State} (h : s.LinesCoherent) :
    s.commitPort.1.LinesCoherent := by
  unfold State.commitPort
  split
  · split
    case h_1 => exact h.of_line_eq (s.commitDescriptor_line _ _)
    case h_2 => exact h.of_line_eq (s.commitSlot_line _ _)
    case h_3 => exact h.of_line_eq (s.commitDirectory_line _ _)
    case h_4 => exact h.of_line_eq (s.commitNode_line _ _)
    case h_5 =>
      unfold State.commitSettings
      split
      · split
        · exact h
        · exact h.with_settings _ _
      · exact h
    case h_6 => exact h
  · exact h

theorem State.eraseDescriptor_line (s : State) (d : Fin 64) (y : LineId) :
    (s.eraseDescriptor d).1.line y = s.line y := by
  unfold State.eraseDescriptor
  split <;> simp

theorem State.eraseSlot_line (s : State) (i : Fin 128) (y : LineId) :
    (s.eraseSlot i).1.line y = s.line y := by
  unfold State.eraseSlot
  split <;> simp

theorem State.eraseDirectory_line (s : State) (k : Fin 8) (y : LineId) :
    (s.eraseDirectory k).1.line y = s.line y := by
  unfold State.eraseDirectory
  split <;> simp

theorem State.eraseNode_line (s : State) (n : Fin 32) (y : LineId) :
    (s.eraseNode n).1.line y = s.line y := by
  unfold State.eraseNode
  split
  · split <;> simp
  · simp

/-- An ERASE is judged as a COMMIT is: a table, or the settings. -/
theorem State.LinesCoherent.eraseEntry {s : State} (h : s.LinesCoherent) (t : TableId) (i : Nat) :
    (s.eraseEntry t i).1.LinesCoherent := by
  cases t with
  | descriptor => exact h.of_line_eq (s.eraseDescriptor_line _)
  | slot => exact h.of_line_eq (s.eraseSlot_line _)
  | directory => exact h.of_line_eq (s.eraseDirectory_line _)
  | node => exact h.of_line_eq (s.eraseNode_line _)
  | line =>
    unfold State.eraseEntry State.eraseSettings
    dsimp only
    split
    · exact h.with_settings _ _
    · exact h
  | adhoc => exact h

theorem State.openPort_line (s : State) (t : TableId) (i : Nat) (y : LineId) :
    (s.openPort t i).line y = s.line y := s.setPort_line _ y

theorem State.takeFlags_line (s : State) (t : TableId) (i : Nat) (y : LineId) :
    (s.takeFlags t i).line y = s.line y := by
  cases t with
  | descriptor => exact s.setDesc_line _ _ y
  | _ => rfl

theorem State.busWrite_line {s : State} {f : State → State} {y : LineId}
    (same : (f s).line y = s.line y) : (s.busWrite f).line y = s.line y := by
  unfold State.busWrite
  split
  · rfl
  · exact same

theorem State.writePointer_line (s : State) (v : Byte) (y : LineId) :
    (s.writePointer v).line y = s.line y := by
  unfold State.writePointer State.collide
  split <;> simp

theorem State.writePortData_line (s : State) (v : Byte) (y : LineId) :
    (s.writePortData v).line y = s.line y := by
  unfold State.writePortData State.collide
  split <;> simp

theorem State.closePort_line (s : State) (y : LineId) : s.closePort.line y = s.line y := by
  unfold State.closePort State.collide
  split <;> simp

theorem State.readPortData_line (s : State) (y : LineId) :
    s.readPortData.line y = s.line y := by
  unfold State.readPortData State.collide
  split
  · cases y <;> rfl
  · split <;> cases y <;> rfl

theorem State.writeRegister_line (s : State) (address : BitVec 5) (v : Byte) (y : LineId) :
    (s.writeRegister address v).line y = s.line y := by
  unfold State.writeRegister
  split
  case h_9 => exact s.writePointer_line v y
  case h_10 => exact s.writePortData_line v y
  case h_11 => exact s.closePort_line y
  case h_12 => rfl
  all_goals cases y <;> rfl

/-! ## The step -/

theorem LineController.Coherent.advanceTo {l : LineController} (h : l.Coherent) (t : Nat) :
    (l.advanceTo t).Coherent := by
  have seq : (l.advanceTo t).seq =
      { l.seq with bitPosition := (l.advanceTo t).seq.bitPosition,
                   charCount := (l.advanceTo t).seq.charCount } := Sequencer.atTime_eq _ _ _
  have moved := h.clocked (max l.time t) (l.advanceTo t).seq.bitPosition
    (l.advanceTo t).seq.charCount
  unfold LineController.clocked at moved
  rw [← seq] at moved
  exact moved

theorem State.LinesCoherent.tick {s : State} (h : s.LinesCoherent) : (tick s).LinesCoherent :=
  (h.setLine .a ((h .a).advanceTo _).countPulse).setLine .b ((h .b).advanceTo _).countPulse

theorem State.linesCoherent_of_next {u t : State}
    (ends : (.next u : Host.Outcome State Fault Refusal) = .next t) (h : u.LinesCoherent) :
    t.LinesCoherent := by
  cases ends
  exact h

/-- Every row of the opcode table keeps both controllers coherent. -/
theorem State.LinesCoherent.exec {s t : State} (h : s.LinesCoherent) (c : Instr)
    (ends : exec c s = .next t) : t.LinesCoherent := by
  cases c with
  | powerOnReset =>
    exact linesCoherent_of_next ends
      (State.reset_linesCoherent.of_line_eq (t := s.powerOn) fun x => by cases x <;> rfl)
  | start =>
    refine linesCoherent_of_next ends ?_
    split
    · exact h.takeStart _ _
    · exact h
  | stopEnd =>
    refine linesCoherent_of_next ends ?_
    split
    · exact h.takeStopEnd _
    · exact h
  | stopNow =>
    refine linesCoherent_of_next ends ?_
    split
    · exact h.takeStopNow _
    · exact h
  | switch =>
    refine linesCoherent_of_next ends ?_
    split
    · exact h.takeSwitch _ _
    · exact h
  | holdSet =>
    refine linesCoherent_of_next ends ?_
    split
    · exact (h.setHoldFlag _ _).complete _
    · exact h
  | holdClear =>
    refine linesCoherent_of_next ends ?_
    split
    · exact (h.setHoldFlag _ _).complete _
    · exact h
  | wake =>
    refine linesCoherent_of_next ends ?_
    split
    · exact h.takeWake _
    · exact h
  | clearFault =>
    refine linesCoherent_of_next ends ?_
    split
    · exact h.takeClearFault _
    · exact h
  | lineReset =>
    refine linesCoherent_of_next ends ?_
    split
    · exact (h.resetLine _).complete _
    · exact h
  | supply =>
    refine linesCoherent_of_next ends ?_
    split
    · exact h.takeSupply _ _
    · exact h
  | enqueue =>
    refine linesCoherent_of_next ends ?_
    split
    · exact h.takeEnqueue _ _
    · exact h
  | cancel =>
    refine linesCoherent_of_next ends ?_
    split
    · exact h.takeCancel _ _
    · exact h
  | openPeek =>
    refine linesCoherent_of_next ends ?_
    split
    · exact (h.of_line_eq (s.openPort_line _ _)).complete _
    · exact h
  | openTake =>
    refine linesCoherent_of_next ends ?_
    split
    · exact ((h.of_line_eq (s.openPort_line _ _)).of_line_eq
        (State.takeFlags_line _ _ _)).complete _
    · exact h
  | commit =>
    refine linesCoherent_of_next ends ?_
    split
    · exact h.commitPort.complete _
    · exact h
  | erase =>
    refine linesCoherent_of_next ends ?_
    split
    · exact (h.eraseEntry _ _).complete _
    · exact h
  | pop value =>
    exact linesCoherent_of_next ends (h.of_line_eq fun x => s.busWrite_line (s.setEvents_line _ x))
  | intEnableWrite value =>
    exact linesCoherent_of_next ends (h.of_line_eq fun x => s.busWrite_line (s.setEvents_line _ x))
  | kindMaskWrite value =>
    exact linesCoherent_of_next ends (h.of_line_eq fun x => s.busWrite_line (s.setEvents_line _ x))
  | portPointerWrite value =>
    exact linesCoherent_of_next ends
      (h.of_line_eq fun x => s.busWrite_line (s.writePointer_line _ x))
  | portDataRead => exact linesCoherent_of_next ends (h.of_line_eq s.readPortData_line)
  | portDataWrite value =>
    exact linesCoherent_of_next ends
      (h.of_line_eq fun x => s.busWrite_line (s.writePortData_line _ x))
  | portStateWrite value =>
    exact linesCoherent_of_next ends (h.of_line_eq fun x => s.busWrite_line (s.closePort_line x))
  | registerWrite address value =>
    exact linesCoherent_of_next ends
      (h.of_line_eq fun x => s.busWrite_line (s.writeRegister_line _ _ x))
  | cmdWrite value =>
    exact linesCoherent_of_next ends (h.of_line_eq fun x => s.busWrite_line (s.setHost_line _ x))
  | resetnRelease =>
    exact linesCoherent_of_next ends
      (h.of_line_eq (t := { s with inReset := false }) fun x => by cases x <;> rfl)
  | postTaken path => exact linesCoherent_of_next ends (h.setEvents _)
  | resetRecordsPosted x => exact linesCoherent_of_next ends (h.setEvents _)
  | holdPinLevelChange x =>
    exact linesCoherent_of_next ends
      ((s.lineWork_levelChanges x).linesCoherent h (levelChanges_coherent (h x)))
  | slotEnd x =>
    exact linesCoherent_of_next ends
      ((s.lineWork_slotEnds x).linesCoherent h (slotEnds_coherent (h x)))
  | alertEnd x =>
    exact linesCoherent_of_next ends
      ((s.lineWork_alertEnds x).linesCoherent h (alertEnds_coherent (h x)))
  | markEnd x =>
    exact linesCoherent_of_next ends
      ((s.lineWork_markEnds x).linesCoherent h (markEnds_coherent (h x)))
  | controlEnd x =>
    exact linesCoherent_of_next ends
      ((s.lineWork_controlEnds x).linesCoherent h (controlEnds_coherent (h x)))
  | readback x bit samples =>
    exact linesCoherent_of_next ends
      ((s.lineWork_compareBit x bit samples).linesCoherent h
        (compareBit_coherent (h x) bit samples))
  | replyCharacter x first second third =>
    exact linesCoherent_of_next ends
      ((s.lineWork_character x _).linesCoherent h (character_coherent (h x) _))
  | replySpaceEnd x =>
    exact linesCoherent_of_next ends
      ((s.lineWork_replySpaceEnds x).linesCoherent h (replySpaceEnds_coherent (h x)))
  | replyGapEnd x =>
    exact linesCoherent_of_next ends
      ((s.lineWork_replyGapEnds x).linesCoherent h (replyGapEnds_coherent (h x)))
  | checkCompare x =>
    exact linesCoherent_of_next ends
      ((s.lineWork_compareCheck x).linesCoherent h (compareCheck_coherent (h x)))
  | supplyWindowEnd x =>
    exact linesCoherent_of_next ends
      ((s.lineWork_windowEnds x).linesCoherent h (windowEnds_coherent (h x)))
  | pushSpaceEnd x =>
    exact linesCoherent_of_next ends
      ((s.lineWork_pushSpaceEnds x).linesCoherent h (pushSpaceEnds_coherent (h x)))
  | pushEnd x =>
    exact linesCoherent_of_next ends
      ((s.lineWork_pushEnds x).linesCoherent h (pushEnds_coherent (h x)))
  | stuckLineReport x =>
    exact linesCoherent_of_next ends
      ((s.lineWork_reportStuck x).linesCoherent h (reportStuck_coherent (h x)))
  | remoteWake x =>
    exact linesCoherent_of_next ends
      ((s.lineWork_wakeRemotely x).linesCoherent h (wakeRemotely_coherent (h x)))
  | wakePulseEnd x =>
    exact linesCoherent_of_next ends
      ((s.lineWork_pulseEnds x).linesCoherent h (pulseEnds_coherent (h x)))
  | recoveryEnd x =>
    exact linesCoherent_of_next ends
      ((s.lineWork_recoveryEnds x).linesCoherent h (recoveryEnds_coherent (h x)))
  | replyStartBit x edge samples =>
    exact linesCoherent_of_next ends
      ((s.lineWork_startBit x edge samples).linesCoherent h (startBit_coherent (h x) edge samples))
  | bitTimeJudged x samples =>
    exact linesCoherent_of_next ends
      ((s.lineWork_judgeBit x samples).linesCoherent h (judgeBit_coherent (h x) samples))
  | holdPinSample x reading =>
    exact linesCoherent_of_next ends
      ((s.lineWork_samplePin x reading).linesCoherent h (samplePin_coherent (h x) reading))

theorem State.LinesCoherent.step {s t : State} (h : s.LinesCoherent) (ends : step s = .next t) :
    t.LinesCoherent := by
  unfold Machine.step at ends
  split at ends
  · exact linesCoherent_of_next ends h.tick
  · next c rest _ =>
    have same : State.LinesCoherent { s with pending := rest } :=
      h.of_line_eq fun x => by cases x <;> rfl
    exact same.exec c ends

/-! ## The pin -/

theorem LineController.pin_of_pulse {l : LineController} (pulse : l.monitor.wakePhase = .pulse) :
    l.pin = .dominant := if_pos pulse

theorem LineController.pin_of_no_pulse {l : LineController}
    (quiet : l.monitor.wakePhase ≠ .pulse) :
    l.pin = drivenLevel l.settings l.seq
      ((l.elapsed - stateBegin l.settings l.seq) / l.settings.divisor) := if_neg quiet

/-- The device drives a line without a pulse only in ALERT, HEADER and PUSH (R20, R22, R33). -/
theorem drivenLevel_dominant {st : LineSettings} {q : Sequencer} {bit : Nat}
    (dominant : drivenLevel st q bit = .dominant) :
    q.frameState = .alert ∨ q.frameState = .header ∨ q.frameState = .push := by
  unfold drivenLevel at dominant
  split at dominant
  · next alert => exact .inl alert
  · next header => exact .inr (.inl header)
  · next push => exact .inr (.inr push)
  · exact Level.noConfusion dominant

theorem LineController.Coherent.lineState_of_dominant {l : LineController} (h : l.Coherent)
    (dominant : l.pin = .dominant) :
    l.lineState = .running ∨ l.lineState = .draining ∨ l.lineState = .waking := by
  by_cases pulse : l.monitor.wakePhase = .pulse
  · exact .inr (.inr (h.wakePhase.mp (by simp [pulse])))
  · rw [LineController.pin_of_no_pulse pulse] at dominant
    have busy : l.seq.frameState ≠ .idle := by
      rcases drivenLevel_dominant dominant with st | st | st <;> simp [st]
    exact (h.frameState busy).imp_right .inl

/-- Settles O58: each row keeps the controller of its line coherent, the tick moves clocks alone,
and the pin is the wake pulse or the level driven in the frame state. -/
theorem everyStepKeepsTheLinesCoherent : Obligations.EveryStepKeepsTheLinesCoherent := by
  refine ⟨fun s t h ends => h.step ends, fun s h x dominant => (h x).lineState_of_dominant dominant,
    fun l => ⟨LineController.pin_of_pulse, fun quiet => ?_⟩⟩
  rw [LineController.pin_of_no_pulse quiet]
  refine ⟨fun alert => ?_, fun released => ?_, fun header => ?_, fun start push begun => ?_⟩
  · simp [drivenLevel, alert]
  · simp only [List.mem_cons, List.not_mem_nil, or_false] at released
    rcases released with st | st | st | st | st | st <;> simp [drivenLevel, st]
  · simp [drivenLevel, stateBegin, header]
  · simp [drivenLevel, stateBegin, push, begun]

end Sys2Proof.Machine
end

-- ==== Proofs: the course of a frame ====
section
/-! The clock period (R2, R17), and the course of a frame: the ends of alert, mark, control
character and push space (R20 to R23, R32), readback (R24), the reply (R25 to R28), the supply
window and the push (R31, R33). -/

namespace Sys2Proof.Machine

/-! ## A line at an instant -/

/-- The clock moves and the sequencer is written: the rest of the line stands. -/
theorem State.setSeq_reach (s : State) (x : LineId) (n : Nat) (q : Sequencer) :
    (s.reach x n).setSeq x q =
      s.setLine x
        { s.line x with
          time := max (s.line x).time ((s.line x).slotStart.getD (s.line x).time + n),
          seq := q } := by
  simp only [State.setSeq, State.reach, State.setLine_setLine, State.setLine_line_same]
  rfl

theorem State.endFrame_reach_time (s : State) (x : LineId) (n : Nat) (o : FrameOutcome)
    (reply : List Byte) :
    (((s.reach x n).endFrame x o reply).line x).time =
      max (s.line x).time ((s.line x).slotStart.getD (s.line x).time + n) := by
  rw [State.endFrame_time, State.reach_line_same, LineController.reach_time]

/-- The counts that the clock drives, by frame state (R17, R33). -/
theorem Sequencer.atTime_counts (st : LineSettings) (n : Nat) (q : Sequencer) :
    let bits := (n - stateBegin st q) / st.divisor
    q.atTime st n =
      { q with
        bitPosition := (match q.frameState with
          | .idle => q.bitPosition
          | .header | .reply => bits % 10
          | .push => bits % (10 + st.pushGap)
          | _ => bits),
        charCount :=
          if q.frameState = .push then (bits + st.pushGap) / (10 + st.pushGap)
          else q.charCount } := by
  obtain ⟨frameState, _⟩ := q
  cases frameState <;> rfl

/-- Outside PUSH the clock drives the bit position alone. -/
theorem LineController.reach_seq_of_not_push {l : LineController} (n : Nat)
    (state : l.seq.frameState ≠ .push) :
    (l.reach n).seq = { l.seq with bitPosition := (l.reach n).seq.bitPosition } := by
  rw [LineController.reach_seq, Sequencer.atTime_counts, if_neg state]

/-! ## The clock period -/

/-- The elapsed periods after one more (R2). -/
theorem LineController.advanceTo_elapsed (l : LineController) :
    (l.advanceTo (l.time + 1)).elapsed =
      match l.slotStart with
      | some origin => l.time + 1 - origin
      | none => 0 := by
  have time : (l.advanceTo (l.time + 1)).time = l.time + 1 := Nat.max_eq_right (Nat.le_succ _)
  unfold LineController.elapsed
  rw [time]
  rfl

theorem LineController.advanceTo_eq (l : LineController) :
    l.advanceTo (l.time + 1) =
      { l with
        time := l.time + 1,
        seq := l.seq.atTime l.settings (l.advanceTo (l.time + 1)).elapsed } := by
  have moved : l.advanceTo (l.time + 1) =
      { l with
        time := max l.time (l.time + 1),
        seq := l.seq.atTime l.settings (l.advanceTo (l.time + 1)).elapsed } := rfl
  rwa [Nat.max_eq_right (Nat.le_succ _)] at moved

theorem LineController.countPulse_eq (l : LineController) :
    l.countPulse =
      { l with
        monitor :=
          { l.monitor with
            pulseCount :=
              if l.monitor.wakePhase = .pulse then l.settings.wakePulse - l.elapsedBits
              else l.monitor.pulseCount } } := by
  unfold LineController.countPulse
  split <;> rfl

/-- Settles O2: `tick` advances both clocks by one, and with each its counts. -/
theorem emptyQueueStepIsOneClockPeriod : Obligations.EmptyQueueStepIsOneClockPeriod := by
  intro s empty
  have ticks : step s = .next (tick s) := by
    unfold step
    rw [empty]
  refine ⟨tick s, ticks, rfl, fun x => ?_⟩
  have line : (tick s).line x = ((s.line x).advanceTo ((s.line x).time + 1)).countPulse := by
    cases x <;> rfl
  intro l st q since began bits
  have elapsed : (l.advanceTo (l.time + 1)).elapsed = since := l.advanceTo_elapsed
  rw [line, LineController.countPulse_eq, LineController.elapsedBits, elapsed,
    LineController.advanceTo_eq, elapsed, Sequencer.atTime_counts]
  rfl

/-! ## Alert, mark, header and push space -/

/-- The start bit of a character is dominant (R4). -/
theorem characterBit_start (byte : Byte) : characterBit byte 0 = .dominant := rfl

/-- Beyond its eight data bits a character is recessive: its stop bit, and a gap behind it (R4,
R33). -/
theorem characterBit_recessive (byte : Byte) {k : Nat} (beyond : 9 ≤ k) :
    characterBit byte k = .recessive := by
  unfold characterBit
  rw [if_neg (by omega), if_neg (by omega)]

theorem State.alertEnds_eq {s : State} {x : LineId} (alert : (s.line x).seq.frameState = .alert) :
    s.alertEnds x =
      (s.reach x ((s.line x).settings.alert * (s.line x).settings.divisor)).setSeq x
        { (s.line x).seq with frameState := .mark, bitPosition := 0 } := by
  unfold State.alertEnds
  dsimp only
  rw [if_pos alert, State.reach_line_same,
    LineController.reach_seq_of_not_push _ (by simp [alert])]

theorem State.markEnds_eq {s : State} {x : LineId} (mark : (s.line x).seq.frameState = .mark) :
    s.markEnds x =
      (s.reach x (((s.line x).settings.alert + (s.line x).settings.mark)
        * (s.line x).settings.divisor)).setSeq x
        { (s.line x).seq with frameState := .header, bitPosition := 0 } := by
  unfold State.markEnds
  dsimp only
  rw [if_pos mark, State.reach_line_same,
    LineController.reach_seq_of_not_push _ (by simp [mark])]

theorem State.pushSpaceEnds_eq {s : State} {x : LineId} {control : Nat}
    (space : (s.line x).seq.frameState = .pushSpace)
    (ended : (s.line x).seq.controlEnd = some control) :
    let n := (control + (s.line x).settings.pushSpace) * (s.line x).settings.divisor
    s.pushSpaceEnds x =
      (s.reach x n).setSeq x
        { (s.line x).seq with
          frameState := .push, pushStart := some n, bitPosition := 0, charCount := 0 } := by
  have start : (s.line x).seq.controlEnd.getD 0 = control := by rw [ended]; rfl
  unfold State.pushSpaceEnds
  dsimp only
  rw [if_pos space, start, State.reach_line_same,
    LineController.reach_seq_of_not_push _ (by simp [space])]

/-- Settles O26: each end moves the clock, and of the counts it moves only the bit position, which
it clears. -/
theorem alertMarkAndPushSpaceEnd : Obligations.AlertMarkAndPushSpaceEnd := by
  intro s x l st moved
  refine ⟨fun alert => ⟨congrArg Host.Outcome.next ?_, fun bit => rfl⟩,
    fun mark => ⟨congrArg Host.Outcome.next ?_, ?_⟩,
    fun control space ended => ⟨congrArg Host.Outcome.next ?_, ?_⟩⟩
  · exact (State.alertEnds_eq alert).trans (s.setSeq_reach x _ _)
  · exact (State.markEnds_eq mark).trans (s.setSeq_reach x _ _)
  · exact characterBit_start _
  · exact (State.pushSpaceEnds_eq space ended).trans (s.setSeq_reach x _ _)
  · simp only [drivenLevel, Nat.zero_mod]
    exact characterBit_start _

/-- The control end of a frame of a kind (R22, R23, R29, R104). -/
theorem State.controlEnds_eq {s : State} {x : LineId} {kind : FrameKind}
    (header : (s.line x).seq.frameState = .header) (isKind : (s.line x).seq.kind = some kind) :
    let l := s.line x
    let t := (s.setLine x
      { l with
        time := max l.time (l.slotStart.getD l.time + headerTime l.settings * l.settings.divisor),
        seq := l.seq.headerSent l.settings kind }).stepCounter l.seq.descriptor
    s.controlEnds x =
      if kind = .deferredPush then
        t.postLine x .supplyDue (indexCode l.seq.descriptor) (supplyDueDetail l.seq.source)
      else t := by
  have sent : ∀ n, ((s.line x).reach n).seq.headerSent (s.line x).settings kind =
      (s.line x).seq.headerSent (s.line x).settings kind := fun n => by
    rw [LineController.reach_seq_of_not_push n (by simp [header])]
    rfl
  unfold State.controlEnds
  simp only [header, isKind, State.setSeq_reach, State.reach_line_same, sent]

/-- A deferred push requests its data at the control end (R29). -/
theorem Sequencer.headerSent_deferredPush {q : Sequencer} {d : Fin 64} (st : LineSettings)
    (descriptor : q.descriptor = some d) :
    q.headerSent st .deferredPush =
      { q with
        frameState := .supplyWait, controlEnd := some (headerTime st), bitPosition := 0,
        supplyRequest := some d } := by
  rw [← descriptor]
  rfl

theorem supplyDueDetail_some (source : FrameSource) :
    supplyDueDetail (some source) =
      match source with
      | .scheduled i => BitVec.ofNat 8 i.val
      | _ => 0xFF := by
  cases source <;> rfl

/-- Settles O27: the kind decides the next state and, for a deferred push, the request and its
record. -/
theorem controlEnd : Obligations.ControlEnd := by
  intro s x header l time clocked q
  refine ⟨fun d source kind frame => ?_, fun frame => ?_⟩
  · obtain ⟨-, isSource, -, isDescriptor, isKind⟩ := frame
    have ends := State.controlEnds_eq header isKind
    simp only [isSource, isDescriptor, State.stepCounter, State.setLine_desc] at ends
    refine ⟨?_, ?_, ?_⟩ <;> rintro rfl <;> refine congrArg Host.Outcome.next (ends.trans ?_)
    · rfl
    · rfl
    · rw [if_pos rfl, State.postLine_eq, State.setDesc_line, State.setLine_line_same,
        Sequencer.headerSent_deferredPush _ isDescriptor, supplyDueDetail_some]
      rfl
  · obtain ⟨-, -, isDescriptor, isKind⟩ := frame
    have ends := State.controlEnds_eq header isKind
    simp only [isDescriptor] at ends
    exact congrArg Host.Outcome.next ends

/-! ## Readback -/

theorem majority_eq_iff (samples : Samples) (level : Level) : majority samples = level ↔
    (samples.first = level ∧ samples.second = level) ∨
      (samples.first = level ∧ samples.third = level) ∨
      (samples.second = level ∧ samples.third = level) := by
  obtain ⟨first, second, third⟩ := samples
  cases first <;> cases second <;> cases third <;> cases level <;> decide

theorem State.compareBit_unsent {s : State} {x : LineId} {bit : Nat} (samples : Samples)
    (unsent : sentBits (s.line x).settings (s.line x).seq ≤ bit) :
    s.compareBit x bit samples = s := if_neg (not_lt.mpr unsent)

theorem State.compareBit_sent {s : State} {x : LineId} {bit : Nat} (samples : Samples)
    (sent : bit < sentBits (s.line x).settings (s.line x).seq) :
    let at' := stateBegin (s.line x).settings (s.line x).seq + bit * (s.line x).settings.divisor
      + thirdSample (s.line x).settings.divisor
    s.compareBit x bit samples =
      if majority samples = drivenLevel (s.line x).settings (s.line x).seq bit then s.reach x at'
      else (s.reach x at').endFrame x .readback [] := if_pos sent

/-- Bit `k` of a run of equal cells lies in its cell. -/
theorem cell_div_mod {cell c k : Nat} (inside : k < cell) :
    (cell * c + k) / cell = c ∧ (cell * c + k) % cell = k :=
  ⟨by rw [Nat.mul_add_div (by omega), Nat.div_eq_of_lt inside, Nat.add_zero],
    by rw [Nat.mul_add_mod, Nat.mod_eq_of_lt inside]⟩

/-- Settles O28: a sent bit is compared at its third sample; a push gap lies beyond the stop bit of
its cell. -/
theorem readbackOfSentBits : Obligations.ReadbackOfSentBits := by
  refine ⟨majority_eq_iff, fun s x bit samples sent => ?_, fun s x bit samples unsent => ?_,
    fun byte => ⟨characterBit_start byte, characterBit_recessive byte le_rfl⟩,
    fun st q bit => ⟨?_, ?_, ?_, ?_, ?_⟩⟩
  · intro st driven at'
    refine ⟨_, congrArg Host.Outcome.next (State.compareBit_sent samples sent), ?_,
      fun same => ?_, fun differ => ?_⟩
    · split
      · simp only [State.reach_line_same, LineController.reach_time]
        rfl
      · rw [State.endFrame_reach_time]
        rfl
    · rw [if_pos same, State.reach_line_same]
      exact ⟨rfl, rfl⟩
    · rw [if_neg differ]
      exact ⟨fun d source kind frame => State.endFrame_ended_reach s x d source kind _ _ _ frame,
        fun frame => State.endFrame_hush_reach s x _ _ _ frame⟩
  · exact congrArg Host.Outcome.next (State.compareBit_unsent samples unsent)
  · intro silent
    simp only [List.mem_cons, List.not_mem_nil, or_false] at silent
    rcases silent with st | st | st | st | st <;> simp [sentBits, st]
  · intro alert
    simp [sentBits, drivenLevel, alert]
  · intro mark
    simp [sentBits, drivenLevel, mark]
  · intro header
    refine ⟨by simp [sentBits, header], fun c k inside => ?_⟩
    obtain ⟨div, mod⟩ := cell_div_mod (c := c) inside
    simp only [drivenLevel, header, div, mod]
  · intro length push isLength
    refine ⟨by simp [sentBits, push, isLength], fun c k => ?_⟩
    have driven : k < 10 + st.pushGap → drivenLevel st q ((10 + st.pushGap) * c + k) =
        characterBit (byteAt q.txBuffer (2 + c)) k := fun inside => by
      obtain ⟨div, mod⟩ := cell_div_mod (c := c) inside
      simp only [drivenLevel, push, div, mod]
    refine ⟨fun inside => driven (by omega), fun gap inside => ?_⟩
    rw [driven inside]
    exact characterBit_recessive _ (by omega)

/-! ## The start bit of a reply character -/

section StartBit

variable {s : State} {x : LineId} {edge deadline : Nat} {samples : Samples} {late : FrameOutcome}

theorem State.judgeStart_dominant (state : (s.line x).seq.frameState ≠ .push)
    (dominant : majority samples = .dominant) :
    s.judgeStart x edge deadline samples late =
      (s.reach x (edge + thirdSample (s.line x).settings.divisor)).setSeq x
        { (s.line x).seq with
          frameState := .reply, startEdge := some edge, bitPosition := 0, lookAgain := none } := by
  unfold State.judgeStart
  dsimp only
  rw [if_pos dominant, State.reach_line_same, LineController.reach_seq_of_not_push _ state]

theorem State.judgeStart_disregarded (recessive : majority samples = .recessive)
    (early : edge + thirdSample (s.line x).settings.divisor < deadline) :
    let judged := edge + thirdSample (s.line x).settings.divisor
    s.judgeStart x edge deadline samples late =
      (s.reach x judged).setSeq x
        { ((s.line x).reach judged).seq with lookAgain := some (nextLook judged samples) } := by
  unfold State.judgeStart
  dsimp only
  rw [if_neg (by simp [recessive]), if_neg (not_le.mpr early), State.reach_line_same]

theorem State.judgeStart_late (recessive : majority samples = .recessive)
    (tooLate : deadline ≤ edge + thirdSample (s.line x).settings.divisor) :
    s.judgeStart x edge deadline samples late =
      (s.reach x (edge + thirdSample (s.line x).settings.divisor)).endFrame x late [] := by
  unfold State.judgeStart
  dsimp only
  rw [if_neg (by simp [recessive]), if_pos tooLate]

theorem State.judgeStart_time :
    ((s.judgeStart x edge deadline samples late).line x).time =
      max (s.line x).time ((s.line x).slotStart.getD (s.line x).time
        + (edge + thirdSample (s.line x).settings.divisor)) := by
  unfold State.judgeStart
  dsimp only
  split
  · simp
  · split
    · exact s.endFrame_reach_time x _ _ _
    · simp

/-- What the judgement of a start edge does to a descriptor's frame (R25, R27). -/
theorem State.judgeStart_effect {d : Fin 64} {source : FrameSource} {kind : FrameKind}
    (frame : s.DescriptorFrame x d source kind) (state : (s.line x).seq.frameState ≠ .push) :
    let l := s.line x
    let t := s.judgeStart x edge deadline samples late
    let judged := edge + 9 * l.settings.divisor / 16
    (t.line x).time = max l.time (l.slotStart.getD l.time + judged) ∧
    (majority samples = .dominant →
      t = s.setLine x
        { l with
          time := max l.time (l.slotStart.getD l.time + judged),
          seq :=
            { l.seq with
              frameState := .reply, startEdge := some edge, bitPosition := 0,
              lookAgain := none } }) ∧
    (majority samples = .recessive → judged < deadline →
      t = s.setLine x
        { l with
          time := max l.time (l.slotStart.getD l.time + judged),
          seq :=
            { l.seq.atTime l.settings (t.line x).elapsed with
              lookAgain :=
                some (if samples.third = .recessive then judged + 1 else judged + 2) } }) ∧
    (majority samples = .recessive → deadline ≤ judged →
      State.FrameEnded x d source kind late [] s t) := by
  refine ⟨State.judgeStart_time, fun dominant => ?_, fun recessive early => ?_,
    fun recessive tooLate => ?_⟩
  · exact (State.judgeStart_dominant state dominant).trans (s.setSeq_reach x _ _)
  · rw [State.judgeStart_disregarded recessive early, State.setSeq_line_same,
      State.reach_line_same]
    exact s.setSeq_reach x _ _
  · rw [State.judgeStart_late recessive tooLate]
    exact s.endFrame_ended_reach x d source kind late [] _ frame

/-- A start edge in REPLY_WAIT (R25). -/
theorem State.startBit_replyWait {control : Nat}
    (wait : (s.line x).seq.frameState = .replyWait)
    (ended : (s.line x).seq.controlEnd = some control) :
    let st := (s.line x).settings
    s.startBit x edge samples =
      if (s.line x).seq.lookAgain.getD
            ((control - 1) * st.divisor + thirdSample st.divisor + 1) ≤ edge ∧
          edge ≤ (control + st.replySpace) * st.divisor then
        s.judgeStart x (max edge (control * st.divisor)) ((control + st.replySpace) * st.divisor)
          samples .noReply
      else s := by
  simp only [State.startBit, Sequencer.looking, lookFrom, edgeDeadline, wait, ended,
    Option.getD_some, if_true, true_and]

/-- A start edge in REPLY (R27, R28). -/
theorem State.startBit_reply (reply : (s.line x).seq.frameState = .reply) :
    let st := (s.line x).settings
    let q := (s.line x).seq
    let last := q.lastCharEnd.getD 0
    s.startBit x edge samples =
      if (q.startEdge = none ∧ q.charCount ≤ q.length.getD 0) ∧
          q.lookAgain.getD (last - st.divisor + middleSample st.divisor) ≤ edge ∧
          edge ≤ last + st.replyGap * st.divisor then
        s.judgeStart x edge (last + st.replyGap * st.divisor) samples .shortReply
      else s := by
  simp only [State.startBit, Sequencer.looking, lookFrom, edgeDeadline, reply, reduceCtorEq,
    if_false, Bool.and_eq_true, Option.isNone_iff_eq_none, decide_eq_true_eq]

theorem State.startBit_before_look (before : edge < lookFrom (s.line x).settings (s.line x).seq) :
    s.startBit x edge samples = s :=
  if_neg fun taken => absurd taken.2.1 (not_le.mpr before)

end StartBit

theorem getD_le {again : Option Nat} {first edge : Nat} (fresh : again = none → first ≤ edge)
    (looks : ∀ n, again = some n → n ≤ edge) : again.getD first ≤ edge := by
  cases again with
  | none => exact fresh rfl
  | some n => exact looks n rfl

/-- Settles O29: the window decides whether the edge is judged, and the judgement is that of
`judgeStart`. -/
theorem replyStartBit : Obligations.ReplyStartBit := by
  intro s x edge samples d source kind frame
  dsimp only
  refine ⟨fun control wait ended fresh looks inTime => ?_,
    fun last length reply between isLast isLength count fresh looks inTime => ?_,
    fun again looks before => ?_, fun control wait ended outside => ?_,
    fun last reply isLast outside => ?_, fun length reply isLength behind => ?_⟩
  · have taken := (State.startBit_replyWait (edge := edge) (samples := samples) wait ended).trans
      (if_pos ⟨getD_le fresh looks, inTime⟩)
    exact ⟨_, congrArg Host.Outcome.next taken, State.judgeStart_effect frame (by simp [wait])⟩
  · have taken := State.startBit_reply (edge := edge) (samples := samples) reply
    simp only [isLast, isLength, Option.getD_some] at taken
    refine ⟨_, congrArg Host.Outcome.next (taken.trans (if_pos ⟨⟨between, count⟩, ?_, inTime⟩)),
      State.judgeStart_effect frame (by simp [reply])⟩
    exact getD_le fresh looks
  · have look : lookFrom (s.line x).settings (s.line x).seq = again := by rw [lookFrom, looks]; rfl
    exact congrArg Host.Outcome.next (State.startBit_before_look (look ▸ before))
  · refine congrArg Host.Outcome.next ((State.startBit_replyWait wait ended).trans (if_neg ?_))
    rintro ⟨looks, inTime⟩
    rcases outside with ⟨fresh, early⟩ | tooLate
    · rw [fresh] at looks
      exact absurd early (not_le.mpr looks)
    · exact absurd inTime (not_le.mpr tooLate)
  · have taken := State.startBit_reply (edge := edge) (samples := samples) reply
    simp only [isLast, Option.getD_some] at taken
    refine congrArg Host.Outcome.next (taken.trans (if_neg ?_))
    rintro ⟨-, looks, inTime⟩
    rcases outside with ⟨fresh, early⟩ | tooLate
    · rw [fresh] at looks
      exact absurd looks (not_le.mpr early)
    · exact absurd inTime (not_le.mpr tooLate)
  · have taken := State.startBit_reply (edge := edge) (samples := samples) reply
    simp only [isLength, Option.getD_some] at taken
    refine congrArg Host.Outcome.next (taken.trans (if_neg ?_))
    rintro ⟨⟨between, count⟩, -⟩
    exact behind.elim (fun begun => begun between) (fun past => absurd count (not_le.mpr past))

/-! ## Reply characters and the end of a reply -/

theorem State.character_eq {s : State} {x : LineId} {edge : Nat} (bits : BitVec 9)
    (reply : (s.line x).seq.frameState = .reply)
    (begun : (s.line x).seq.startEdge = some edge) :
    let l := s.line x
    let n := edge + 9 * l.settings.divisor + thirdSample l.settings.divisor
    s.character x bits =
      if bits.getLsbD 8 then
        (s.reach x n).setSeq x
          ((l.reach n).seq.takeCharacter (bits.setWidth 8) (edge + 10 * l.settings.divisor))
      else (s.reach x n).endFrame x .framing [] := by
  unfold State.character
  simp only [reply, begun, State.reach_line_same]

/-- In a reply character the bit position is the bit of the character (R17). -/
theorem LineController.reach_seq_reply {l : LineController} {edge : Nat} (n : Nat)
    (reply : l.seq.frameState = .reply) (begun : l.seq.startEdge = some edge) :
    (l.reach n).seq =
      { l.seq with bitPosition := ((l.reach n).elapsed - edge) / l.settings.divisor % 10 } := by
  have bit : (l.reach n).seq.bitPosition =
      ((l.reach n).elapsed - edge) / l.settings.divisor % 10 := by
    rw [LineController.reach_seq]
    simp [Sequencer.atTime, stateBegin, reply, begun]
  have seq := LineController.reach_seq_of_not_push (l := l) n (by simp [reply])
  rwa [bit] at seq

/-- The running check advances over the data bytes of a reply of known length (R26). -/
theorem Sequencer.takeCharacter_of_length {q : Sequencer} {length : Nat}
    (isLength : q.length = some length) (byte : Byte) (nominalEnd : Nat) :
    q.takeCharacter byte nominalEnd =
      { q with
        charCount := q.charCount + 1, rxBuffer := q.rxBuffer.setIfInBounds q.charCount byte,
        runningCheck :=
          if q.charCount < length then crcByte q.runningCheck byte else q.runningCheck,
        startEdge := none, lastCharEnd := some nominalEnd, lookAgain := none } := by
  have shown : q.length.getD 0 = length := by rw [isLength]; rfl
  unfold Sequencer.takeCharacter
  rw [shown]
  rfl

/-- Settles O30: the stop bit decides between FRAMING and the stored byte. -/
theorem replyCharacter : Obligations.ReplyCharacter := by
  intro s x first second third edge length d source kind frame reply begun isLength l bits byte at'
  have effect := State.character_eq bits reply begun
  refine ⟨_, congrArg Host.Outcome.next effect, ?_, fun dominant => ?_, fun recessive => ?_⟩
  · split
    · simp only [State.setSeq_line_same, State.reach_line_same, LineController.reach_time]
      rfl
    · exact s.endFrame_reach_time x _ _ _
  · rw [if_neg (by rw [dominant]; decide)]
    exact s.endFrame_ended_reach x d source kind .framing [] _ frame
  · rw [if_pos recessive, State.setSeq_line_same, State.reach_line_same,
      LineController.reach_seq_reply _ reply begun,
      Sequencer.takeCharacter_of_length (by exact isLength), State.setSeq_reach]
    rfl

/-- Settles O31: both timeouts end the frame at their deadline. -/
theorem replyTimeouts : Obligations.ReplyTimeouts := by
  intro s x d source kind frame
  dsimp only
  refine ⟨fun control wait ended => ?_, fun last length reply between isLast isLength count => ?_⟩
  · have deadline : edgeDeadline (s.line x).settings (s.line x).seq =
        (control + (s.line x).settings.replySpace) * (s.line x).settings.divisor := by
      simp [edgeDeadline, wait, ended]
    have ends : s.replySpaceEnds x =
        (s.reach x (edgeDeadline (s.line x).settings (s.line x).seq)).endFrame x .noReply [] :=
      if_pos wait
    rw [deadline] at ends
    exact ⟨_, congrArg Host.Outcome.next ends,
      s.endFrame_ended_reach x d source kind .noReply [] _ frame, s.endFrame_reach_time x _ _ _⟩
  · have deadline : edgeDeadline (s.line x).settings (s.line x).seq =
        last + (s.line x).settings.replyGap * (s.line x).settings.divisor := by
      simp [edgeDeadline, reply, isLast]
    have looks : (s.line x).seq.looking = true := by
      simp [Sequencer.looking, reply, between, isLength, count]
    have ends : s.replyGapEnds x =
        (s.reach x (edgeDeadline (s.line x).settings (s.line x).seq)).endFrame x .shortReply [] :=
      if_pos ⟨reply, looks⟩
    rw [deadline] at ends
    exact ⟨_, congrArg Host.Outcome.next ends,
      s.endFrame_ended_reach x d source kind .shortReply [] _ frame, s.endFrame_reach_time x _ _ _⟩

/-- Settles O32: the complete reply is ended OK or CRC_FAIL at the nominal end of its check. -/
theorem checkCompare : Obligations.CheckCompare := by
  intro s x d source kind last length frame reply between isLast isLength count
  dsimp only
  have complete : (s.line x).seq.replyComplete = true := by
    simp [Sequencer.replyComplete, reply, between, isLength, count]
  have equal : (s.line x).seq.checkEqual = true ↔
      byteAt (s.line x).seq.rxBuffer length = (s.line x).seq.runningCheck := by
    simp [Sequencer.checkEqual, isLength]
  have effect : s.compareCheck x =
      if (s.line x).seq.checkEqual then
        (s.reach x last).endFrame x .ok ((s.line x).seq.rxBuffer.toList.take length)
      else (s.reach x last).endFrame x .crcFail [] := by
    refine (if_pos complete).trans ?_
    simp only [isLast, isLength, Option.getD_some]
  refine ⟨_, congrArg Host.Outcome.next effect, ?_, fun same => ?_, fun differ => ?_⟩
  · split <;> exact s.endFrame_reach_time x _ _ _
  · rw [if_pos (equal.mpr same)]
    exact s.endFrame_ended_reach x d source kind .ok _ _ frame
  · rw [if_neg (mt equal.mp differ)]
    exact s.endFrame_ended_reach x d source kind .crcFail [] _ frame

/-! ## The supply window and the push -/

theorem State.windowEnds_eq {s : State} {x : LineId} {control : Nat}
    (wait : (s.line x).seq.frameState = .supplyWait)
    (ended : (s.line x).seq.controlEnd = some control) :
    s.windowEnds x =
      (s.reach x ((control + (s.line x).settings.supplyWindow)
        * (s.line x).settings.divisor)).endFrame x .lateData [] := by
  simp only [State.windowEnds, wait, ended, if_true, Option.getD_some]

theorem State.pushEnds_eq {s : State} {x : LineId} {start length : Nat}
    (push : (s.line x).seq.frameState = .push) (begun : (s.line x).seq.pushStart = some start)
    (isLength : (s.line x).seq.length = some length) :
    s.pushEnds x =
      (s.reach x (start + ((length + 1) * 10 + length * (s.line x).settings.pushGap)
        * (s.line x).settings.divisor)).endFrame x .ok [] := by
  simp only [State.pushEnds, sentBits, push, begun, isLength, if_true, Option.getD_some]

/-- Settles O34: each end comes at its instant, a hush frame being a push of one byte. -/
theorem supplyWindowAndPushEnd : Obligations.SupplyWindowAndPushEnd := by
  refine ⟨fun s x d source kind frame => ⟨fun control wait ended => ?_,
    fun start length push begun isLength => ?_⟩, fun s x start frame push begun isLength => ?_⟩
  · exact ⟨_, congrArg Host.Outcome.next (State.windowEnds_eq wait ended),
      s.endFrame_ended_reach x d source kind .lateData [] _ frame, s.endFrame_reach_time x _ _ _⟩
  · exact ⟨_, congrArg Host.Outcome.next (State.pushEnds_eq push begun isLength),
      s.endFrame_ended_reach x d source kind .ok [] _ frame, s.endFrame_reach_time x _ _ _⟩
  · have bits : ∀ gap, (1 + 1) * 10 + 1 * gap = 20 + gap := fun gap => by omega
    have ends := State.pushEnds_eq push begun isLength
    rw [bits] at ends
    exact ⟨_, congrArg Host.Outcome.next ends, s.endFrame_hush_reach x .ok [] _ frame,
      s.endFrame_reach_time x _ _ _⟩

end Sys2Proof.Machine
end

-- ==== Proofs: the machine after reset ====
section
/-! The machine right after reset meets the invariants of Safety.lean: every entry of every table
holds its power-on values, both lines are OFF and every queue is empty. -/

namespace Sys2Proof.Machine

/-! ## Power-on values -/

@[simp] theorem State.reset_line (x : LineId) : State.reset.line x = .initial := by cases x <;> rfl

@[simp] theorem State.reset_desc (d : Fin 64) : State.reset.desc d = .initial := by
  simp [State.desc, State.reset]

@[simp] theorem State.reset_dir (k : Fin 8) : State.reset.dir k = .initial := by
  simp [State.dir, State.reset]

@[simp] theorem State.reset_slot (i : Fin 128) : State.reset.slot i = .initial := by
  simp [State.slot, State.reset]

@[simp] theorem State.reset_node (n : Fin 32) : State.reset.node n = .initial := by
  simp [State.node, State.reset]

/-! ## The invariants -/

theorem State.reset_bounded : State.reset.events.Bounded :=
  ⟨Nat.zero_le _, Nat.zero_le _, nofun⟩

theorem State.reset_tablesInRange : State.reset.TablesInRange where
  settings x := by rw [State.reset_line]; decide
  descriptors d := by rw [State.reset_desc]; decide
  directory k := by rw [State.reset_dir]; decide
  slots i := by rw [State.reset_slot]; decide
  nodes n := by rw [State.reset_node]; decide
  tags d e _ inUse := by
    rw [State.reset_desc] at inUse
    exact nomatch inUse
  flags d overwritten := by
    rw [State.reset_desc] at overwritten
    exact nomatch overwritten

theorem Node.initial_coherent : Node.initial.Coherent where
  unused := iff_of_true rfl rfl
  misses := Nat.zero_le _
  score := Nat.zero_le _
  missing := nofun
  erratic := nofun
  range := by decide

theorem State.reset_nodesCoherent : State.reset.NodesCoherent where
  nodes n := by rw [State.reset_node]; exact Node.initial_coherent
  references d n named := by
    rw [State.reset_desc] at named
    exact nomatch named

theorem State.reset_adhocViews : State.reset.AdhocViews where
  lines := State.reset_linesCoherent
  queued x d := by
    rw [State.reset_line, State.reset_desc]
    exact iff_of_false nofun (fun view => nomatch view.1)
  inFlight x d := by
    rw [State.reset_line, State.reset_desc]
    exact iff_of_false nofun (fun view => nomatch view.1)
  inUse d held := by
    rw [State.reset_desc] at held
    exact absurd rfl held

theorem State.reset_schedulesValid : State.reset.SchedulesValid where
  counts k := by rw [State.reset_dir]; decide
  off x _ := by rw [State.reset_line]; exact ⟨rfl, rfl⟩
  valid x k used := by
    rw [State.reset_line] at used
    exact used.elim nofun nofun
  index x k active := by
    rw [State.reset_line] at active
    exact nomatch active

/-- Settles O60: each invariant holds of the power-on values. -/
theorem resetMeetsTheInvariants : Obligations.ResetMeetsTheInvariants :=
  ⟨State.reset_bounded, State.reset_tablesInRange, State.reset_nodesCoherent,
    State.reset_linesCoherent, State.reset_adhocViews, State.reset_schedulesValid⟩

end Sys2Proof.Machine
end

-- ==== Proofs: descriptor commits ====
section
/-! COMMIT of a descriptor: the range check and the fields of its window (R44, R176), the other
checks and the descriptor lock (R42, R45 to R47). -/

namespace Sys2Proof.Machine

/-! ## The descriptor window -/

theorem bit_cases {v : Byte} (bit : v.toNat ≤ 1) : v = 0x00 ∨ v = 0x01 := by
  have : v.toNat = 0 ∨ v.toNat = 1 := by omega
  exact this.imp BitVec.eq_of_toNat_eq BitVec.eq_of_toNat_eq

theorem indexArg_eq_some {n : Nat} {v : Byte} {i : Fin n} :
    indexArg n v = some i ↔ v.toNat = i.val := by
  unfold indexArg
  split
  · simp [Fin.ext_iff]
  · simp; omega

theorem byteAt_toList {n : Nat} (buffer : Vector Byte n) (i : Nat) :
    byteAt buffer i = buffer.toList.getD i 0 := by
  simp [byteAt, List.getD_eq_getElem?_getD]

/-- The range check of R44, field by field. -/
theorem descriptorRange_firstFailure (w : Window) :
    let b := fun i => (byteAt w i).toNat
    FirstFailure
      [ (0x00, b 0 = 1), (0x01, b 1 ≤ 1), (0x02, b 2 ≤ 126), (0x03, b 3 ≤ 1),
        (0x04, 1 ≤ b 4 ∧ b 4 ≤ 12), (0x05, b 5 ≤ 1 ∧ (b 3 ≠ 1 → b 5 = 0)),
        (0x06, b 6 ≤ 31 ∨ b 6 = 255), (0x07, b 7 ≤ 2) ] (descriptorRange w) := by
  refine firstFailure_firstFailing
    (.cons ⟨rfl, ?_⟩ (.cons ⟨rfl, ?_⟩ (.cons ⟨rfl, ?_⟩ (.cons ⟨rfl, ?_⟩ (.cons ⟨rfl, ?_⟩
      (.cons ⟨rfl, ?_⟩ (.cons ⟨rfl, ?_⟩ (.cons ⟨rfl, ?_⟩ .nil)))))))) <;>
    simp [boolField, isBit, inRange, ← BitVec.toNat_inj, imp_iff_not_or]

/-- A buffer that passes the range check gives each field the value of its bytes (R176). -/
theorem descriptorFields_of_range {w : Window} (passes : descriptorRange w = none) :
    let b := fun i => (byteAt w i).toNat
    let c := descriptorFields w
    c.inUse = true ∧ c.line = (if b 1 = 0 then .a else .b) ∧ c.tag.toNat = b 2 ∧
      c.direction = (if b 3 = 0 then .poll else .push) ∧ c.length = b 4 ∧
      c.supply = (if b 5 = 0 then .stored else .deferred) ∧
      (∀ n : Fin 32, c.node = some n ↔ b 6 = n.val) ∧
      (b 7, c.notify) ∈ [(0, Notify.none), (1, .fail), (2, .all)] := by
  have fields := (descriptorRange_firstFailure w).1.mp passes
  simp only [List.forall_mem_cons] at fields
  obtain ⟨inUse, line, tag, direction, -, ⟨supply, -⟩, -, notify, -⟩ := fields
  refine ⟨?_, ?_, ?_, ?_, rfl, ?_, fun n => indexArg_eq_some, ?_⟩
  · simpa [descriptorFields, boolField, ← BitVec.toNat_inj] using inUse
  · rcases bit_cases line with v | v <;> simp [descriptorFields, lineField, v]
  · simp only [descriptorFields, BitVec.toNat_setWidth]
    omega
  · rcases bit_cases direction with v | v <;> simp [descriptorFields, v]
  · rcases bit_cases supply with v | v <;> simp [descriptorFields, v]
  · have code : byteAt w 7 = 0x00 ∨ byteAt w 7 = 0x01 ∨ byteAt w 7 = 0x02 := by
      have : (byteAt w 7).toNat = 0 ∨ (byteAt w 7).toNat = 1 ∨ (byteAt w 7).toNat = 2 := by omega
      exact this.imp BitVec.eq_of_toNat_eq (.imp BitVec.eq_of_toNat_eq BitVec.eq_of_toNat_eq)
    rcases code with v | v | v <;> simp [descriptorFields, v]

theorem descriptorFields_inRange {w : Window} (passes : descriptorRange w = none) :
    (descriptorFields w).InRange := by
  have fields := (descriptorRange_firstFailure w).1.mp passes
  simp only [List.forall_mem_cons] at fields
  obtain ⟨-, -, tag, -, length, ⟨-, supply⟩, -⟩ := fields
  obtain ⟨-, -, isTag, isDirection, isLength, isSupply, -⟩ := descriptorFields_of_range passes
  refine ⟨isTag ▸ tag, isLength ▸ length, fun poll => ?_⟩
  rw [isDirection] at poll
  rw [isSupply, if_pos (supply fun push => by simp [push] at poll)]

theorem byteAt_descriptorData (w : Window) {i : Nat} (inside : i < 12) :
    byteAt (descriptorData w) i = byteAt w (8 + i) := by
  rw [descriptorData, byteAt_overlay _ _ _ inside, if_pos (by simp; omega), byteAt_toList]
  have bound : 8 + i < 32 := by omega
  simp [List.getD_eq_getElem?_getD, inside, getElem?_pos w (8 + i) bound]

/-- The offset of the first field that a locked descriptor may not change (R47). -/
theorem descriptorDifference_firstFailure (c c' : DescriptorConfig) :
    FirstFailure
      [ (0x00, c.inUse = c'.inUse), (0x01, c.line = c'.line), (0x02, c.tag = c'.tag),
        (0x03, c.direction = c'.direction), (0x04, c.length = c'.length),
        (0x05, c.supply = c'.supply), (0x06, c.node = c'.node), (0x07, c.notify = c'.notify) ]
      (descriptorDifference c c') :=
  firstFailure_firstFailing (by simp)

theorem descriptorDifference_eq_none {c c' : DescriptorConfig} :
    descriptorDifference c c' = none ↔ c = c' := by
  rw [(descriptorDifference_firstFailure c c').1]
  obtain ⟨⟩ := c
  obtain ⟨⟩ := c'
  simp

/-! ## The lock -/

theorem DirectoryEntry.covers_iff (e : DirectoryEntry) (i : Fin 128) :
    e.covers i = true ↔ e.firstSlot ≤ i.val ∧ i.val < e.firstSlot + e.slotCount :=
  decide_eq_true_iff

theorem State.slotLocked_iff (s : State) (i : Fin 128) :
    s.slotLocked i = true ↔ ∃ k ∈ s.lockedClosure, (s.dir k).covers i = true := List.any_eq_true

/-- A REGULAR slot of a schedule in the locked closure names the descriptor (R42). -/
theorem State.namedInClosure_iff (s : State) (d : Fin 64) :
    s.namedInClosure d = true ↔ ∃ k ∈ s.lockedClosure, ∃ i : Fin 128,
      (s.dir k).firstSlot ≤ i.val ∧ i.val < (s.dir k).firstSlot + (s.dir k).slotCount ∧
      (s.slot i).kind = .regular ∧ (s.slot i).descriptor = d := by
  simp only [State.namedInClosure, List.any_eq_true, List.mem_finRange, true_and,
    Bool.and_eq_true, beq_iff_eq, State.slotLocked_iff, DirectoryEntry.covers_iff]
  constructor
  · rintro ⟨i, ⟨kind, names⟩, k, locked, first, last⟩
    exact ⟨k, locked, i, first, last, kind, names⟩
  · rintro ⟨k, locked, i, first, last, kind, names⟩
    exact ⟨i, ⟨kind, names⟩, k, locked, first, last⟩

theorem State.adhocHeld_iff (s : State) (d : Fin 64) :
    s.adhocHeld d = true ↔ (s.desc d).adhoc ≠ .none := bne_iff_ne

theorem State.descriptorLocked_iff (s : State) (d : Fin 64) :
    s.descriptorLocked d = true ↔ s.namedInClosure d = true ∨ (s.desc d).adhoc ≠ .none := by
  rw [State.descriptorLocked, Bool.or_eq_true, State.adhocHeld_iff]

/-! ## The checks in order -/

/-- The lowest index with a property is the one a search in ascending order finds. -/
theorem find?_finRange_eq_some {n : Nat} {p : Fin n → Bool} {i : Fin n} :
    (List.finRange n).find? p = some i ↔ p i = true ∧ ∀ j, j < i → p j = false := by
  simp only [List.find?_eq_some_iff_getElem, List.getElem_finRange, List.length_finRange,
    Bool.not_eq_true']
  refine and_congr_right fun _ =>
    ⟨?_, fun none => ⟨i, i.isLt, rfl, fun j below => none ⟨j, _⟩ below⟩⟩
  rintro ⟨_, _, rfl, none⟩ j below
  exact none j below

theorem State.findDescriptor_eq_some {s : State} {p : Fin 64 → DescriptorConfig → Bool}
    {d : Fin 64} :
    s.findDescriptor p = some d ↔
      ((s.desc d).config.inUse = true ∧ p d (s.desc d).config = true) ∧
      ∀ e, e < d → ¬ ((s.desc e).config.inUse = true ∧ p e (s.desc e).config = true) := by
  simp only [State.findDescriptor, find?_finRange_eq_some, Bool.and_eq_true,
    Bool.eq_false_iff, ne_eq]

theorem State.findDescriptor_eq_none {s : State} {p : Fin 64 → DescriptorConfig → Bool} :
    s.findDescriptor p = none ↔
      ∀ d, ¬ ((s.desc d).config.inUse = true ∧ p d (s.desc d).config = true) := by
  simp [State.findDescriptor]

/-- The named node is in use and on the buffer's line (R45). -/
theorem State.badNode_eq_none {s : State} {c : DescriptorConfig} :
    s.badNode c = none ↔ ∀ n, c.node = some n →
      (s.node n).config.inUse = true ∧ (s.node n).config.line = c.line := by
  unfold State.badNode
  cases c.node <;> simp

theorem State.badNode_eq_some {s : State} {c : DescriptorConfig} {n : Fin 32}
    (names : c.node = some n)
    (bad : ¬ ((s.node n).config.inUse = true ∧ (s.node n).config.line = c.line)) :
    s.badNode c = some (BitVec.ofNat 8 n.val) := by
  simp [State.badNode, names, bad]

/-- Descriptor `e` stands in the way of a commit of `d`: another in-use descriptor with the same
line and tag (R46). -/
def State.TagClash (s : State) (d : Fin 64) (c : DescriptorConfig) (e : Fin 64) : Prop :=
  e ≠ d ∧ (s.desc e).config.inUse = true ∧ (s.desc e).config.line = c.line ∧
    (s.desc e).config.tag = c.tag

theorem State.tagClash_iff {s : State} {d e : Fin 64} {c : DescriptorConfig} :
    s.TagClash d c e ↔ (s.desc e).config.inUse = true ∧
      (e != d && (s.desc e).config.line == c.line && (s.desc e).config.tag == c.tag) = true := by
  simp only [State.TagClash, Bool.and_eq_true, bne_iff_ne, beq_iff_eq]
  tauto

theorem State.duplicateTag_eq_none {s : State} {d : Fin 64} {c : DescriptorConfig} :
    s.duplicateTag d c = none ↔ ∀ e, ¬ s.TagClash d c e := by
  simp only [State.duplicateTag, Option.map_eq_none_iff, State.findDescriptor_eq_none,
    State.tagClash_iff]

theorem State.duplicateTag_eq_some {s : State} {d e : Fin 64} {c : DescriptorConfig}
    (clash : s.TagClash d c e) (lowest : ∀ e', e' < e → ¬ s.TagClash d c e') :
    s.duplicateTag d c = some (BitVec.ofNat 8 e.val) := by
  simp only [State.tagClash_iff] at clash lowest
  rw [State.duplicateTag, State.findDescriptor_eq_some.mpr ⟨clash, lowest⟩, Option.map_some]

theorem State.lockedDifference_eq_none {s : State} {d : Fin 64} {c : DescriptorConfig} :
    s.lockedDifference d c = none ↔ (s.descriptorLocked d = true → (s.desc d).config = c) := by
  unfold State.lockedDifference
  split
  · next locked => simp [locked, descriptorDifference_eq_none]
  · next free => simp [free]

/-- A commit passes exactly where each of the four checks does (R44 to R47). -/
theorem State.descriptorRefusal_eq_none {s : State} {d : Fin 64} {w : Window} :
    s.descriptorRefusal d w = none ↔
      descriptorRange w = none ∧ s.badNode (descriptorFields w) = none ∧
      s.duplicateTag d (descriptorFields w) = none ∧
      s.lockedDifference d (descriptorFields w) = none := by
  unfold State.descriptorRefusal
  split
  · next range => simp [range]
  · next range =>
    split
    · next node => simp [node]
    · next node =>
      split
      · next tag => simp [tag]
      · next tag =>
        split
        · next lock => simp [lock]
        · next lock => simp [range, node, tag, lock]

theorem State.commitDescriptor_refused {s : State} {d : Fin 64} {w : Window} {a : Answer}
    (refused : s.descriptorRefusal d w = some a) : s.commitDescriptor d w = (s, a) := by
  simp only [State.commitDescriptor, refused]

theorem State.commitDescriptor_passed {s : State} {d : Fin 64} {w : Window}
    (passed : s.descriptorRefusal d w = none) :
    s.commitDescriptor d w =
      (s.setDesc d
        { s.desc d with
          config := descriptorFields w,
          data := if (descriptorFields w).direction = .push then descriptorData w
            else (s.desc d).data }, .done) := by
  simp only [State.commitDescriptor, passed]

/-! ## The command -/

theorem entry_val {n : Nat} (h : 0 < n) (i : Fin n) : entry n h i.val = i := by
  simp [entry]

theorem entry_byte {n : Nat} (h : 0 < n) (i : Fin n) (small : n ≤ 256) :
    entry n h (BitVec.ofNat 8 i.val).toNat = i := by
  have : (BitVec.ofNat 8 i.val).toNat = i.val := by
    rw [BitVec.toNat_ofNat]
    exact Nat.mod_eq_of_lt (by omega)
  rw [this, entry_val]

theorem exec_commit {s : State} (accepted : s.accepted = some .commit) :
    exec .commit s = .next (s.commitPort.1.complete s.commitPort.2) := by
  simp only [exec, execCommit, accepted]

theorem State.commitPort_descriptor {s : State} {d : Fin 64} (isOpen : s.port.isOpen = true)
    (table : s.port.table = .descriptor) (index : s.port.index = BitVec.ofNat 8 d.val) :
    s.commitPort = s.commitDescriptor d s.port.buffer := by
  simp only [State.commitPort, isOpen, table, index, if_true, entry_byte _ d (by decide)]

/-- Settles O44: the four checks refuse in the order of `descriptorRefusal`, each by its own lemma. -/
theorem commitOfADescriptor : Obligations.CommitOfADescriptor := by
  refine ⟨?_, fun w => ⟨descriptorRange_firstFailure w, descriptorFields_of_range,
    fun _ => byteAt_descriptorData w⟩,
    fun s d => ⟨s.namedInClosure_iff d, s.descriptorLocked_iff d⟩,
    descriptorDifference_firstFailure⟩
  intro s d accepted isOpen table index w c refused nodeOk clash
  have command : exec .commit s =
      .next ((s.commitDescriptor d w).1.complete (s.commitDescriptor d w).2) := by
    rw [exec_commit accepted, State.commitPort_descriptor isOpen table index]
  have refuses : ∀ r detail, s.descriptorRefusal d w = some { result := r, detail := detail } →
      refused r detail := fun r detail fails => by
    rw [State.commitDescriptor_refused fails] at command
    exact command
  have nodeChecked : nodeOk → s.badNode c = none := State.badNode_eq_none.mpr
  have tagChecked : (∀ e, ¬ clash e) → s.duplicateTag d c = none :=
    State.duplicateTag_eq_none.mpr
  refine ⟨fun offset range => ?_, fun range bad n names => ?_,
    fun range node e isClash lowest => ?_, fun range node tag locked offset differs => ?_,
    fun range node tag unlocked => ?_⟩
  · exact refuses _ _ (by simp only [State.descriptorRefusal, range])
  · have badNode : s.badNode c = some (BitVec.ofNat 8 n.val) := by
      refine State.badNode_eq_some names fun ok => bad fun m isNamed => ?_
      obtain rfl : n = m := Option.some_inj.mp (names.symm.trans isNamed)
      exact ok
    exact refuses _ _ (by simp only [State.descriptorRefusal, range, c, badNode])
  · have duplicate := State.duplicateTag_eq_some isClash lowest
    exact refuses _ _
      (by simp only [State.descriptorRefusal, range, nodeChecked node, duplicate, c])
  · have difference : s.lockedDifference d c = some offset := by
      rw [State.lockedDifference, if_pos locked, differs]
    exact refuses _ _ (by simp only [State.descriptorRefusal, range, nodeChecked node,
      tagChecked tag, difference, c])
  · have kept : s.lockedDifference d c = none := by
      refine State.lockedDifference_eq_none.mpr fun locked => unlocked.resolve_left ?_
      simp [locked]
    rw [State.commitDescriptor_passed (State.descriptorRefusal_eq_none.mpr
      ⟨range, nodeChecked node, tagChecked tag, kept⟩)] at command
    exact command

end Sys2Proof.Machine
end

-- ==== Proofs: erases ====
section
/-! ERASE of each table (R49, R73, R77, R145, R170), and the locked closure (R69). -/

namespace Sys2Proof.Machine

/-! ## The locked closure -/

theorem State.mem_closureOf (s : State) (schedule : Option (Fin 8)) (k : Fin 8) :
    k ∈ s.closureOf schedule ↔ ∃ j, schedule = some j ∧ k ∈ s.closure j := by
  cases schedule <;> simp [State.closureOf]

theorem State.mem_lineClosure (s : State) (x : LineId) (k : Fin 8) :
    k ∈ s.lineClosure x ↔
      ∃ j, ((s.line x).active = some j ∨ (s.line x).pending = some j) ∧ k ∈ s.closure j := by
  simp only [State.lineClosure, List.mem_append, State.mem_closureOf, or_and_right, exists_or]

theorem State.mem_lockedClosure (s : State) (k : Fin 8) :
    k ∈ s.lockedClosure ↔ ∃ x, k ∈ s.lineClosure x := by
  rw [State.lockedClosure, List.mem_append]
  constructor
  · rintro (a | b)
    · exact ⟨.a, a⟩
    · exact ⟨.b, b⟩
  · rintro ⟨_ | _, locked⟩
    · exact .inl locked
    · exact .inr locked

theorem State.directoryLocked_iff (s : State) (k : Fin 8) :
    s.directoryLocked k = true ↔ k ∈ s.lockedClosure := List.contains_iff_mem

theorem State.slotLocked_eq_false (s : State) (i : Fin 128) :
    s.slotLocked i = false ↔ ∀ k ∈ s.lockedClosure, (s.dir k).covers i = false := by
  simp [State.slotLocked]

/-- The IN_USE answer for a slot names the lowest schedule of the locked closure that covers it
(R72). -/
theorem State.slotHolder_eq_some {s : State} {i : Fin 128} {k : Fin 8}
    (locked : k ∈ s.lockedClosure) (covers : (s.dir k).covers i = true)
    (lowest : ∀ j ∈ s.lockedClosure, (s.dir j).covers i = true → k ≤ j) :
    s.slotHolder i = some k := by
  refine find?_finRange_eq_some.mpr ⟨by simp [locked, covers], fun j below => ?_⟩
  by_contra held
  simp only [Bool.not_eq_false, Bool.and_eq_true, List.contains_iff_mem] at held
  exact absurd (lowest j held.1 held.2) (not_le.mpr below)

/-! ## The node's users -/

theorem State.nodeUser_eq_none {s : State} {n : Fin 32} :
    s.nodeUser n = none ↔
      ∀ d, ¬ ((s.desc d).config.inUse = true ∧ (s.desc d).config.node = some n) := by
  simp only [State.nodeUser, State.findDescriptor_eq_none, beq_iff_eq]

theorem State.nodeUser_eq_some {s : State} {n : Fin 32} {d : Fin 64} :
    s.nodeUser n = some d ↔
      ((s.desc d).config.inUse = true ∧ (s.desc d).config.node = some n) ∧
      ∀ e, e < d → ¬ ((s.desc e).config.inUse = true ∧ (s.desc e).config.node = some n) := by
  simp only [State.nodeUser, State.findDescriptor_eq_some, beq_iff_eq]

/-! ## The erases of each table -/

/-- An erase of a locked descriptor is refused with the two halves of its lock (R49). -/
theorem State.eraseDescriptor_locked {s : State} {d : Fin 64} {named held : Bool}
    (isNamed : s.namedInClosure d = named) (isHeld : s.adhocHeld d = held)
    (locked : (named || held) = true) :
    s.eraseDescriptor d =
      (s, { result := .inUse, detail := BitVec.ofNat 8 (named.toNat + 2 * held.toNat) }) := by
  subst isNamed isHeld
  exact if_pos locked

theorem State.eraseDescriptor_free {s : State} {d : Fin 64} (unnamed : s.namedInClosure d = false)
    (unheld : s.adhocHeld d = false) : s.eraseDescriptor d = (s.setDesc d .initial, .done) :=
  if_neg (by simp [State.descriptorLocked, unnamed, unheld])

theorem State.eraseDirectory_locked {s : State} {k : Fin 8} (locked : k ∈ s.lockedClosure) :
    s.eraseDirectory k = (s, { result := .inUse, detail := BitVec.ofNat 8 k.val }) :=
  if_pos ((s.directoryLocked_iff k).mpr locked)

theorem State.eraseDirectory_free {s : State} {k : Fin 8} (free : k ∉ s.lockedClosure) :
    s.eraseDirectory k = (s.setDir k .initial, .done) :=
  if_neg (mt (s.directoryLocked_iff k).mp free)

theorem State.eraseSlot_locked {s : State} {i : Fin 128} {k : Fin 8}
    (locked : k ∈ s.lockedClosure) (covers : (s.dir k).covers i = true)
    (lowest : ∀ j ∈ s.lockedClosure, (s.dir j).covers i = true → k ≤ j) :
    s.eraseSlot i = (s, { result := .inUse, detail := BitVec.ofNat 8 k.val }) := by
  have holder := State.slotHolder_eq_some locked covers lowest
  rw [State.eraseSlot, if_pos ((s.slotLocked_iff i).mpr ⟨k, locked, covers⟩), State.slotInUse,
    holder]
  rfl

theorem State.eraseSlot_free {s : State} {i : Fin 128}
    (free : ∀ k ∈ s.lockedClosure, (s.dir k).covers i = false) :
    s.eraseSlot i = (s.setSlot i .initial, .done) :=
  if_neg (by simp [(s.slotLocked_eq_false i).mpr free])

theorem State.eraseNode_used {s : State} {n : Fin 32} {d : Fin 64}
    (inUse : (s.node n).config.inUse = true) (user : s.nodeUser n = some d) :
    s.eraseNode n = (s, { result := .inUse, detail := BitVec.ofNat 8 d.val }) := by
  simp only [State.eraseNode, inUse, user, if_true]

theorem State.eraseNode_free {s : State} {n : Fin 32}
    (free : (s.node n).config.inUse = false ∨ s.nodeUser n = none) :
    s.eraseNode n = (s.setNode n .initial, .done) := by
  unfold State.eraseNode
  split
  · next inUse => rw [free.resolve_left (by simp [inUse])]
  · rfl

theorem State.eraseSettings_running {s : State} {x : LineId} (on : (s.line x).lineState ≠ .off) :
    s.eraseSettings x = (s, .wrongState) := if_neg on

theorem State.eraseSettings_off {s : State} {x : LineId} (off : (s.line x).lineState = .off) :
    s.eraseSettings x = (s.setLine x { s.line x with settings := .initial }, .done) := if_pos off

/-! ## The command -/

theorem lineEntry_lineCode (x : LineId) : lineEntry (lineCode x).toNat = x := by cases x <;> rfl

theorem exec_erase {s : State} {table : TableId} {i : Nat} {u : State} {a : Answer}
    (accepted : s.accepted = some (.erase table i)) (erased : s.eraseEntry table i = (u, a)) :
    exec .erase s = .next (u.complete a) := by
  simp only [exec, execErase, accepted, erased]

/-- Settles O46: the command is the erase of its entry, and each table's erase refuses or restores
by its own lemma. -/
theorem eraseCommand : Obligations.EraseCommand := by
  refine ⟨fun s k => ⟨s.mem_lockedClosure k, fun x => s.mem_lineClosure x k⟩,
    DirectoryEntry.covers_iff, ?_⟩
  intro s refused done
  refine ⟨fun d accepted => ?_, fun k accepted => ?_, fun i accepted => ?_,
    fun n accepted => ?_, fun x accepted => ?_, fun i accepted => exec_erase accepted rfl⟩
  · have erases : s.eraseEntry .descriptor d.val = s.eraseDescriptor d := by
      simp only [State.eraseEntry, entry_val]
    have held := (s.adhocHeld_iff d).mpr
    have unheld : (s.desc d).adhoc = .none → s.adhocHeld d = false := fun none => by
      simp [State.adhocHeld, none]
    exact ⟨fun named none => exec_erase accepted
        (erases.trans (State.eraseDescriptor_locked named (unheld none) rfl)),
      fun unnamed some => exec_erase accepted
        (erases.trans (State.eraseDescriptor_locked unnamed (held some) rfl)),
      fun named some => exec_erase accepted
        (erases.trans (State.eraseDescriptor_locked named (held some) rfl)),
      fun unnamed none => exec_erase accepted
        (erases.trans (State.eraseDescriptor_free unnamed (unheld none)))⟩
  · have erases : s.eraseEntry .directory k.val = s.eraseDirectory k := by
      simp only [State.eraseEntry, entry_val]
    exact ⟨fun locked => exec_erase accepted (erases.trans (State.eraseDirectory_locked locked)),
      fun free => exec_erase accepted (erases.trans (State.eraseDirectory_free free))⟩
  · have erases : s.eraseEntry .slot i.val = s.eraseSlot i := by
      simp only [State.eraseEntry, entry_val]
    exact ⟨fun k locked covers lowest =>
        exec_erase accepted (erases.trans (State.eraseSlot_locked locked covers lowest)),
      fun free => exec_erase accepted (erases.trans (State.eraseSlot_free free))⟩
  · have erases : s.eraseEntry .node n.val = s.eraseNode n := by
      simp only [State.eraseEntry, entry_val]
    exact ⟨fun d inUse user lowest => exec_erase accepted
        (erases.trans (State.eraseNode_used inUse (State.nodeUser_eq_some.mpr ⟨user, lowest⟩))),
      fun free => exec_erase accepted
        (erases.trans (State.eraseNode_free (free.imp_right State.nodeUser_eq_none.mpr)))⟩
  · have erases : s.eraseEntry .line (lineCode x).toNat = s.eraseSettings x := by
      simp only [State.eraseEntry, lineEntry_lineCode]
    exact ⟨fun on => exec_erase accepted (erases.trans (State.eraseSettings_running on)),
      fun off => exec_erase accepted (erases.trans (State.eraseSettings_off off))⟩

end Sys2Proof.Machine
end

-- ==== Proofs: power-on reset ====
section
/-! The values of a power-on reset (R171). -/

namespace Sys2Proof.Machine

theorem exec_powerOnReset (s : State) : exec .powerOnReset s = .next s.powerOn := rfl

@[simp] theorem State.powerOn_line (s : State) (x : LineId) : s.powerOn.line x = .initial :=
  State.reset_line x

@[simp] theorem State.powerOn_desc (s : State) (d : Fin 64) : s.powerOn.desc d = .initial :=
  State.reset_desc d

@[simp] theorem State.powerOn_dir (s : State) (k : Fin 8) : s.powerOn.dir k = .initial :=
  State.reset_dir k

@[simp] theorem State.powerOn_slot (s : State) (i : Fin 128) : s.powerOn.slot i = .initial :=
  State.reset_slot i

@[simp] theorem State.powerOn_node (s : State) (n : Fin 32) : s.powerOn.node n = .initial :=
  State.reset_node n

/-- Settles O4: every entry holds its initial record, whose fields are the chapters' values. -/
theorem powerOnResetOfTablesAndLines : Obligations.PowerOnResetOfTablesAndLines := by
  refine ⟨fun s => rfl, fun s => ⟨s.powerOn, exec_powerOnReset s, s.powerOn_desc, s.powerOn_dir,
    s.powerOn_slot, s.powerOn_node, fun x => ?_⟩⟩
  rw [State.powerOn_line]
  exact ⟨rfl, rfl, rfl, rfl, rfl, rfl, rfl, rfl, rfl, rfl, rfl, rfl, rfl, rfl, rfl, rfl, rfl, rfl,
    rfl, rfl, rfl, rfl, rfl, rfl, rfl, rfl, rfl⟩

end Sys2Proof.Machine
end

-- ==== Proofs: the work of a line ====
section
/-! What an event or a command of a line can do to its requests and to the descriptors, said once: it
is quiet, or it ends a frame, or it begins a slot. -/

namespace Sys2Proof.Machine

/-! ## Quiet work of a line -/

/-- Work of a line that leaves its requests, and of every descriptor all but the frame counter. -/
structure State.QuietWork (x : LineId) (s t : State) : Prop extends State.LineWork x s t where
  requests : (t.line x).queue = (s.line x).queue
  inFlight : (t.line x).inFlight = (s.line x).inFlight
  descs    : ∀ d, t.desc d = { s.desc d with frameCounter := (t.desc d).frameCounter }

theorem State.QuietWork.refl (x : LineId) (s : State) : State.QuietWork x s s :=
  { State.LineWork.refl x s with requests := rfl, inFlight := rfl, descs := fun _ => rfl }

theorem State.QuietWork.trans {x : LineId} {s t u : State} (h : State.QuietWork x s t)
    (k : State.QuietWork x t u) : State.QuietWork x s u :=
  { h.toLineWork.trans k.toLineWork with
    requests := k.requests.trans h.requests
    inFlight := k.inFlight.trans h.inFlight
    descs := fun d => (k.descs d).trans (by rw [h.descs d]) }

theorem State.quietWork_setLine (s : State) (x : LineId) (l : LineController)
    (settings : l.settings = (s.line x).settings) (requests : l.queue = (s.line x).queue)
    (inFlight : l.inFlight = (s.line x).inFlight) : State.QuietWork x s (s.setLine x l) :=
  { s.lineWork_setLine x l settings with
    requests := by simpa using requests
    inFlight := by simpa using inFlight
    descs := fun d => by simp }

theorem State.quietWork_setSeq (s : State) (x : LineId) (q : Sequencer) :
    State.QuietWork x s (s.setSeq x q) := s.quietWork_setLine x _ rfl rfl rfl

theorem State.quietWork_setMonitor (s : State) (x : LineId) (m : Monitor) :
    State.QuietWork x s (s.setMonitor x m) := s.quietWork_setLine x _ rfl rfl rfl

theorem State.quietWork_reach (s : State) (x : LineId) (n : Nat) :
    State.QuietWork x s (s.reach x n) := s.quietWork_setLine x _ rfl rfl rfl

theorem State.quietWork_post (s : State) (x : LineId) (p : Poster) (r : Post) :
    State.QuietWork x s (s.post p r) :=
  { s.lineWork_post x p r with
    requests := by simp
    inFlight := by simp
    descs := fun _ => rfl }

theorem State.quietWork_postLine (s : State) (x : LineId) (kind : EventKind) (index detail : Byte) :
    State.QuietWork x s (s.postLine x kind index detail) := s.quietWork_post x _ _

theorem State.quietWork_posted (s : State) (x : LineId) (p : Poster) (records : List Post) :
    State.QuietWork x s (s.posted p records) := by
  induction records generalizing s with
  | nil => exact (s.posted_nil p).symm ▸ .refl x s
  | cons r rest ih =>
    rw [← List.singleton_append, ← State.posted_posted]
    exact (s.quietWork_post x p r).trans (ih _)

/-- A controller is replaced and its change is posted: the form of the runner's state changes. -/
theorem State.quietWork_changeLine (s : State) (x : LineId) (l : LineController) (index : Byte)
    (cause : Cause) (settings : l.settings = (s.line x).settings)
    (requests : l.queue = (s.line x).queue) (inFlight : l.inFlight = (s.line x).inFlight) :
    State.QuietWork x s ((s.setLine x l).postLineChange x index cause) :=
  (s.quietWork_setLine x l settings requests inFlight).trans (State.quietWork_post _ x _ _)

theorem State.quietWork_stepCounter (s : State) (x : LineId) (d : Option (Fin 64)) :
    State.QuietWork x s (s.stepCounter d) :=
  { s.lineWork_stepCounter x d with
    requests := by simp
    inFlight := by simp
    descs := fun e => by
      cases d with
      | none => rfl
      | some d =>
        unfold State.stepCounter
        rw [State.setDesc_desc]
        split
        · next same => rw [same]
        · rfl }

theorem State.quietWork_goOff (s : State) (x : LineId) (cause : Cause) :
    State.QuietWork x s (s.goOff x cause) := s.quietWork_changeLine x _ _ _ rfl rfl rfl

theorem State.quietWork_goHeld (s : State) (x : LineId) (position : Nat) :
    State.QuietWork x s (s.goHeld x position) := s.quietWork_changeLine x _ _ _ rfl rfl rfl

theorem State.quietWork_goRunning (s : State) (x : LineId) (cause : Cause) :
    State.QuietWork x s (s.goRunning x cause) := s.quietWork_changeLine x _ _ _ rfl rfl rfl

theorem State.quietWork_goAsleep (s : State) (x : LineId) :
    State.QuietWork x s (s.goAsleep x) := s.quietWork_changeLine x _ _ _ rfl rfl rfl

theorem State.quietWork_goWaking (s : State) (x : LineId) (m : Monitor) (cause : Cause) :
    State.QuietWork x s (s.goWaking x m cause) := s.quietWork_changeLine x _ _ _ rfl rfl rfl

theorem State.quietWork_enterFault (s : State) (x : LineId) :
    State.QuietWork x s (s.enterFault x) := s.quietWork_changeLine x _ _ _ rfl rfl rfl

theorem State.quietWork_takeSchedule (s : State) (x : LineId) (k : Fin 8) :
    State.QuietWork x s (s.takeSchedule x k) :=
  (s.quietWork_setLine x _ (by rfl) (by rfl) (by rfl)).trans (State.quietWork_postLine _ x _ _ _)

theorem State.quietWork_changeSchedule (s : State) (x : LineId) (followOns : Bool) :
    State.QuietWork x s (s.changeSchedule x followOns) := by
  rw [State.changeSchedule_eq]
  exact (s.quietWork_setLine x _ (by rfl) (by rfl) (by rfl)).trans
    (State.quietWork_posted _ x _ _)

theorem State.quietWork_countCycle (s : State) (x : LineId) :
    State.QuietWork x s (s.countCycle x) := s.quietWork_setLine x _ rfl rfl rfl

/-! ## Work that may begin a slot -/

/-- What a cycle boundary can do: quiet work, and after it at most one slot start. -/
inductive State.BoundaryWork (x : LineId) (s t : State) : Prop
  | quiet (work : State.QuietWork x s t)
  | slotStart {u : State} {n : Nat} (before : State.QuietWork x s u) (start : t = u.beginSlot x n)

theorem State.QuietWork.then_boundary {x : LineId} {s t u : State} (h : State.QuietWork x s t)
    (k : State.BoundaryWork x t u) : State.BoundaryWork x s u := by
  cases k with
  | quiet work => exact .quiet (h.trans work)
  | slotStart before start => exact .slotStart (h.trans before) start

theorem State.boundaryWork_beginSlot (s : State) (x : LineId) (n : Nat) :
    State.BoundaryWork x s (s.beginSlot x n) := .slotStart (.refl x s) rfl

theorem State.boundaryWork_beginCycle (s : State) (x : LineId) (n : Nat) (cause : Cause) :
    State.BoundaryWork x s (s.beginCycle x n cause) := by
  have first := s.quietWork_setLine x { s.line x with slotIndex := 0 } rfl rfl rfl
  unfold State.beginCycle
  dsimp only
  split
  · exact first.then_boundary (State.boundaryWork_beginSlot _ x n)
  · exact (first.trans (State.quietWork_goRunning _ x cause)).then_boundary
      (State.boundaryWork_beginSlot _ x n)

theorem State.boundaryWork_boundary (s : State) (x : LineId) (n : Nat) (followOns : Bool)
    (cause : Cause) : State.BoundaryWork x s (s.boundary x n followOns cause) := by
  unfold State.boundary
  split
  · exact .quiet (s.quietWork_goOff x _)
  · have changed := s.quietWork_changeSchedule x followOns
    dsimp only
    split
    · exact .quiet (changed.trans (State.quietWork_goHeld _ x _))
    · exact changed.then_boundary (State.boundaryWork_beginCycle _ x _ _)

theorem State.boundaryWork_release (s : State) (x : LineId) :
    State.BoundaryWork x s (s.release x) := by
  unfold State.release
  dsimp only
  split
  · exact s.boundaryWork_boundary x _ _ _
  · exact (s.quietWork_goRunning x _).then_boundary (State.boundaryWork_beginSlot _ x _)

theorem State.boundaryWork_endSlot (s : State) (x : LineId) (k : Fin 8) (n : Nat) :
    State.BoundaryWork x s (s.endSlot x k n) := by
  unfold State.endSlot
  dsimp only
  split
  · exact .quiet (s.quietWork_goAsleep x)
  · split
    · exact (s.quietWork_countCycle x).then_boundary (State.boundaryWork_boundary _ x _ _ _)
    · split
      · exact .quiet (s.quietWork_goHeld x _)
      · exact (s.quietWork_setLine x _ (by rfl) (by rfl) (by rfl)).then_boundary
          (State.boundaryWork_beginSlot _ x _)

theorem State.boundaryWork_startLine (s : State) (x : LineId) (k : Fin 8) :
    State.BoundaryWork x s (s.startLine x k) :=
  (((s.quietWork_setLine x _ (by rfl) (by rfl) (by rfl)).trans
    (State.quietWork_takeSchedule _ x k)).trans (State.quietWork_goRunning _ x _)).then_boundary
    (State.boundaryWork_beginSlot _ x _)

/-! ## The events of a line -/

/-- No frame is in flight: the sequencer is IDLE, or the line is in a state without frames (R80). -/
def LineController.Settled (l : LineController) : Prop :=
  l.seq.frameState = .idle ∨ l.lineState ≠ .running ∧ l.lineState ≠ .draining

theorem LineController.Coherent.idle_of_settled {l : LineController} (h : l.Coherent)
    (settled : l.Settled) : l.seq.frameState = .idle :=
  settled.elim id fun ⟨running, draining⟩ => h.idle running draining

/-- What an event or a command of a line can do: quiet work, the end of one frame in the midst of
quiet work, or, while no frame is in flight, a slot start after quiet work. -/
inductive State.EventWork (x : LineId) (s t : State) : Prop
  | quiet (work : State.QuietWork x s t)
  | frameEnd {u : State} {o : FrameOutcome} {reply : List Byte} (before : State.QuietWork x s u)
      (coherent : (s.line x).Coherent → (u.line x).Coherent)
      (after : State.QuietWork x (u.endFrame x o reply) t)
  | slotStart {u : State} {n : Nat} (settled : (s.line x).Settled)
      (before : State.QuietWork x s u) (start : t = u.beginSlot x n)

theorem State.EventWork.refl (x : LineId) (s : State) : State.EventWork x s s := .quiet (.refl x s)

theorem State.BoundaryWork.eventWork {x : LineId} {s t : State} (h : State.BoundaryWork x s t)
    (settled : (s.line x).Settled) : State.EventWork x s t := by
  cases h with
  | quiet work => exact .quiet work
  | slotStart before start => exact .slotStart settled before start

theorem State.EventWork.lineWork {x : LineId} {s t : State} (h : State.EventWork x s t) :
    State.LineWork x s t := by
  cases h with
  | quiet work => exact work.toLineWork
  | frameEnd before _ after =>
    exact (before.toLineWork.trans (State.lineWork_endFrame _ x _ _)).trans after.toLineWork
  | slotStart _ before start =>
    exact start ▸ before.toLineWork.trans (State.lineWork_beginSlot _ x _)

/-- A frame ends at an instant of its line. -/
theorem State.eventWork_endFrame_reach (s : State) (x : LineId) (n : Nat) (o : FrameOutcome)
    (reply : List Byte) : State.EventWork x s ((s.reach x n).endFrame x o reply) :=
  .frameEnd (s.quietWork_reach x n) (fun h => by simpa using h.reach n) (.refl x _)

/-- A frame goes on at an instant of its line. -/
theorem State.eventWork_setSeq_reach (s : State) (x : LineId) (n : Nat) (q : Sequencer) :
    State.EventWork x s ((s.reach x n).setSeq x q) :=
  .quiet ((s.quietWork_reach x n).trans (State.quietWork_setSeq _ x q))

theorem State.eventWork_slotEnds (s : State) (x : LineId) : State.EventWork x s (s.slotEnds x) := by
  unfold State.slotEnds
  dsimp only
  split
  · next runs =>
    split
    · exact ((s.quietWork_reach x _).then_boundary
        (State.boundaryWork_endSlot _ x _ _)).eventWork (.inl runs.2)
    · exact .refl x s
  · exact .refl x s

theorem State.eventWork_samplePin (s : State) (x : LineId) (reading : PinLevel) :
    State.EventWork x s (s.samplePin x reading) := by
  unfold State.samplePin
  dsimp only
  split
  · exact .refl x s
  · exact .quiet (s.quietWork_setLine x _ (by simp) (by simp) (by simp))

/-- The controller changes without a change of its line state, and a HELD line may be released. -/
theorem State.eventWork_holdChanged (s : State) (x : LineId) (l : LineController) (before : Bool)
    (settings : l.settings = (s.line x).settings) (requests : l.queue = (s.line x).queue)
    (inFlight : l.inFlight = (s.line x).inFlight) (st : l.lineState = (s.line x).lineState) :
    State.EventWork x s ((s.setLine x l).holdChanged x before) := by
  have changed := s.quietWork_setLine x l settings requests inFlight
  unfold State.holdChanged
  split
  · next released =>
    have held : (s.line x).lineState = .held := by simpa [st] using released.1
    exact (changed.then_boundary (State.boundaryWork_release _ x)).eventWork
      (.inr (by simp [held]))
  · exact .quiet changed

theorem State.eventWork_setHoldFlag (s : State) (x : LineId) (v : Bool) :
    State.EventWork x s (s.setHoldFlag x v) := s.eventWork_holdChanged x _ _ rfl rfl rfl rfl

theorem State.eventWork_levelChanges (s : State) (x : LineId) :
    State.EventWork x s (s.levelChanges x) := by
  unfold State.levelChanges
  dsimp only
  split
  · exact s.eventWork_holdChanged x _ _ rfl rfl rfl rfl
  · exact .refl x s

theorem State.eventWork_alertEnds (s : State) (x : LineId) :
    State.EventWork x s (s.alertEnds x) := by
  unfold State.alertEnds
  dsimp only
  split
  · exact s.eventWork_setSeq_reach x _ _
  · exact .refl x s

theorem State.eventWork_markEnds (s : State) (x : LineId) :
    State.EventWork x s (s.markEnds x) := by
  unfold State.markEnds
  dsimp only
  split
  · exact s.eventWork_setSeq_reach x _ _
  · exact .refl x s

theorem State.eventWork_controlEnds (s : State) (x : LineId) :
    State.EventWork x s (s.controlEnds x) := by
  unfold State.controlEnds
  dsimp only
  split
  · have sent := fun n q d => ((s.quietWork_reach x n).trans
      (State.quietWork_setSeq _ x q)).trans (State.quietWork_stepCounter _ x d)
    split
    · exact .quiet ((sent _ _ _).trans (State.quietWork_postLine _ x _ _ _))
    · exact .quiet (sent _ _ _)
  · exact .refl x s

theorem State.eventWork_compareBit (s : State) (x : LineId) (bit : Nat) (samples : Samples) :
    State.EventWork x s (s.compareBit x bit samples) := by
  unfold State.compareBit
  dsimp only
  split
  · split
    · exact .quiet (s.quietWork_reach x _)
    · exact s.eventWork_endFrame_reach x _ _ _
  · exact .refl x s

theorem State.eventWork_judgeStart (s : State) (x : LineId) (edge deadline : Nat)
    (samples : Samples) (late : FrameOutcome) :
    State.EventWork x s (s.judgeStart x edge deadline samples late) := by
  unfold State.judgeStart
  dsimp only
  split
  · exact s.eventWork_setSeq_reach x _ _
  · split
    · exact s.eventWork_endFrame_reach x _ _ _
    · exact s.eventWork_setSeq_reach x _ _

theorem State.eventWork_startBit (s : State) (x : LineId) (edge : Nat) (samples : Samples) :
    State.EventWork x s (s.startBit x edge samples) := by
  unfold State.startBit
  dsimp only
  split
  · split <;> exact s.eventWork_judgeStart x _ _ _ _
  · exact .refl x s

theorem State.eventWork_character (s : State) (x : LineId) (bits : BitVec 9) :
    State.EventWork x s (s.character x bits) := by
  unfold State.character
  dsimp only
  split
  · split
    · exact s.eventWork_setSeq_reach x _ _
    · exact s.eventWork_endFrame_reach x _ _ _
  · exact .refl x s

theorem State.eventWork_replySpaceEnds (s : State) (x : LineId) :
    State.EventWork x s (s.replySpaceEnds x) := by
  unfold State.replySpaceEnds
  dsimp only
  split
  · exact s.eventWork_endFrame_reach x _ _ _
  · exact .refl x s

theorem State.eventWork_replyGapEnds (s : State) (x : LineId) :
    State.EventWork x s (s.replyGapEnds x) := by
  unfold State.replyGapEnds
  dsimp only
  split
  · exact s.eventWork_endFrame_reach x _ _ _
  · exact .refl x s

theorem State.eventWork_compareCheck (s : State) (x : LineId) :
    State.EventWork x s (s.compareCheck x) := by
  unfold State.compareCheck
  dsimp only
  split
  · split <;> exact s.eventWork_endFrame_reach x _ _ _
  · exact .refl x s

theorem State.eventWork_windowEnds (s : State) (x : LineId) :
    State.EventWork x s (s.windowEnds x) := by
  unfold State.windowEnds
  dsimp only
  split
  · exact s.eventWork_endFrame_reach x _ _ _
  · exact .refl x s

theorem State.eventWork_pushSpaceEnds (s : State) (x : LineId) :
    State.EventWork x s (s.pushSpaceEnds x) := by
  unfold State.pushSpaceEnds
  dsimp only
  split
  · exact s.eventWork_setSeq_reach x _ _
  · exact .refl x s

theorem State.eventWork_pushEnds (s : State) (x : LineId) :
    State.EventWork x s (s.pushEnds x) := by
  unfold State.pushEnds
  dsimp only
  split
  · exact s.eventWork_endFrame_reach x _ _ _
  · exact .refl x s

theorem State.eventWork_judgeBit (s : State) (x : LineId) (samples : Samples) :
    State.EventWork x s (s.judgeBit x samples) := by
  unfold State.judgeBit
  dsimp only
  split
  · exact .quiet (s.quietWork_setLine x _ (by simp) (by simp) (by simp))
  · exact .refl x s

/-- The stuck report is noted on a coherent line that is not OFF (R130). -/
theorem LineController.Coherent.stuckReported {l : LineController} (h : l.Coherent)
    (due : l.stuckDue = true) :
    { l with monitor := { l.monitor with stuckReported := true } }.Coherent := by
  simp only [LineController.stuckDue, Bool.and_eq_true] at due
  obtain ⟨⟨active, _⟩, _⟩ := due
  exact h.counted (h.not_off active) active rfl h.qualify h.runCount

theorem State.eventWork_reportStuck (s : State) (x : LineId) :
    State.EventWork x s (s.reportStuck x) := by
  unfold State.reportStuck
  dsimp only
  split
  · next due =>
    have reported := s.quietWork_setMonitor x { (s.line x).monitor with stuckReported := true }
    split
    · exact .quiet reported
    · exact .frameEnd reported (fun h => by simpa using h.stuckReported due)
        (State.quietWork_enterFault _ x)
  · exact .refl x s

theorem State.eventWork_wakeRemotely (s : State) (x : LineId) :
    State.EventWork x s (s.wakeRemotely x) := by
  unfold State.wakeRemotely
  dsimp only
  split
  · exact .quiet (s.quietWork_goWaking x _ _)
  · exact .refl x s

theorem State.eventWork_pulseEnds (s : State) (x : LineId) :
    State.EventWork x s (s.pulseEnds x) := by
  unfold State.pulseEnds
  dsimp only
  split
  · exact .quiet ((s.quietWork_reach x _).trans (State.quietWork_setMonitor _ x _))
  · exact .refl x s

theorem State.eventWork_recoveryEnds (s : State) (x : LineId) :
    State.EventWork x s (s.recoveryEnds x) := by
  unfold State.recoveryEnds
  dsimp only
  split
  · next recovered =>
    simp only [LineController.recovered, Bool.and_eq_true, beq_iff_eq] at recovered
    obtain ⟨⟨waking, _⟩, _⟩ := recovered
    exact ((((s.quietWork_reach x _).trans (State.quietWork_setMonitor _ x _)).trans
      (State.quietWork_countCycle _ x)).then_boundary
      (State.boundaryWork_boundary _ x _ _ _)).eventWork (.inr (by simp [waking]))
  · exact .refl x s

end Sys2Proof.Machine
end

-- ==== Proofs: every row of the opcode table ====
section
/-! Every row of the opcode table by what it does to the tables and to the requests of the lines; an
invariant of the tables is kept by every step once it is kept by these few kinds of work. -/

namespace Sys2Proof.Machine

/-! ## Work on the host side -/

/-- Both lines and every table are as they were; the host side and the event unit may differ. -/
structure State.SameTables (s t : State) : Prop where
  lineA       : t.lineA = s.lineA
  lineB       : t.lineB = s.lineB
  descriptors : t.descriptors = s.descriptors
  directory   : t.directory = s.directory
  slots       : t.slots = s.slots
  nodes       : t.nodes = s.nodes

theorem State.SameTables.refl (s : State) : s.SameTables s := ⟨rfl, rfl, rfl, rfl, rfl, rfl⟩

theorem State.SameTables.line {s t : State} (h : s.SameTables t) (x : LineId) :
    t.line x = s.line x := by
  cases x
  · exact h.lineA
  · exact h.lineB

theorem State.SameTables.desc {s t : State} (h : s.SameTables t) (d : Fin 64) :
    t.desc d = s.desc d := by rw [State.desc, h.descriptors, State.desc]

theorem State.SameTables.dir {s t : State} (h : s.SameTables t) (k : Fin 8) :
    t.dir k = s.dir k := by rw [State.dir, h.directory, State.dir]

theorem State.SameTables.slot {s t : State} (h : s.SameTables t) (i : Fin 128) :
    t.slot i = s.slot i := by rw [State.slot, h.slots, State.slot]

theorem State.SameTables.node {s t : State} (h : s.SameTables t) (n : Fin 32) :
    t.node n = s.node n := by rw [State.node, h.nodes, State.node]

theorem State.sameTables_complete (s : State) (a : Answer) : s.SameTables (s.complete a) :=
  ⟨rfl, rfl, rfl, rfl, rfl, rfl⟩

theorem State.sameTables_completeFree (s : State) (r : Result) : s.SameTables (s.completeFree r) :=
  ⟨rfl, rfl, rfl, rfl, rfl, rfl⟩

theorem State.sameTables_setHost (s : State) (h : HostPort) : s.SameTables (s.setHost h) :=
  ⟨rfl, rfl, rfl, rfl, rfl, rfl⟩

theorem State.sameTables_setPort (s : State) (p : TablePort) : s.SameTables (s.setPort p) :=
  ⟨rfl, rfl, rfl, rfl, rfl, rfl⟩

theorem State.sameTables_setEvents (s : State) (e : EventUnit) : s.SameTables (s.setEvents e) :=
  ⟨rfl, rfl, rfl, rfl, rfl, rfl⟩

theorem State.sameTables_busWrite {s : State} {f : State → State} (same : s.SameTables (f s)) :
    s.SameTables (s.busWrite f) := by
  unfold State.busWrite
  split
  · exact .refl s
  · exact same

theorem State.sameTables_writePointer (s : State) (v : Byte) : s.SameTables (s.writePointer v) := by
  unfold State.writePointer
  split
  · exact s.sameTables_setHost _
  · exact s.sameTables_setPort _

theorem State.sameTables_writePortData (s : State) (v : Byte) :
    s.SameTables (s.writePortData v) := by
  unfold State.writePortData
  split
  · exact s.sameTables_setHost _
  · exact s.sameTables_setPort _

theorem State.sameTables_closePort (s : State) : s.SameTables s.closePort := by
  unfold State.closePort
  split
  · exact s.sameTables_setHost _
  · exact s.sameTables_setPort _

theorem State.sameTables_readPortData (s : State) : s.SameTables s.readPortData := by
  unfold State.readPortData
  split
  · exact ⟨rfl, rfl, rfl, rfl, rfl, rfl⟩
  · split <;> exact ⟨rfl, rfl, rfl, rfl, rfl, rfl⟩

theorem State.sameTables_writeRegister (s : State) (address : BitVec 5) (v : Byte) :
    s.SameTables (s.writeRegister address v) := by
  unfold State.writeRegister
  split
  case h_9 => exact s.sameTables_writePointer v
  case h_10 => exact s.sameTables_writePortData v
  case h_11 => exact s.sameTables_closePort
  all_goals exact ⟨rfl, rfl, rfl, rfl, rfl, rfl⟩

theorem State.sameTables_openTake (s : State) (table : TableId) (i : Nat) (a : Answer) :
    (s.takeFlags table i).SameTables (((s.openPort table i).takeFlags table i).complete a) := by
  cases table <;> exact ⟨rfl, rfl, rfl, rfl, rfl, rfl⟩

/-! ## The kinds of work -/

/-- ENQUEUE: the descriptor joins the tail of the queue and becomes QUEUED (R111). -/
def State.enqueued (s : State) (x : LineId) (d : Fin 64) : State :=
  (s.setLine x { s.line x with queue := (s.line x).queue ++ [d] }).setAdhoc d .queued

/-- CANCEL: the descriptor leaves the queue and its ad-hoc state becomes NONE (R112). -/
def State.cancelled (s : State) (x : LineId) (d : Fin 64) : State :=
  (s.setLine x { s.line x with queue := (s.line x).queue.erase d }).setAdhoc d .none

/-- What a row of the opcode table does to the tables and to the lines; `same` does not say
what it does on the host side and to the event unit. -/
inductive State.RowWork (s t : State) : Prop
  | powerOn (reset : t = s.powerOn)
  | event {x : LineId} {u : State} (work : State.EventWork x s u) (same : u.SameTables t)
  | lineReset {x : LineId} (same : (s.resetLine x).SameTables t)
  | enqueue {x : LineId} {d : Fin 64} (passes : s.enqueueRefusal x d = none)
      (same : (s.enqueued x d).SameTables t)
  | cancel {x : LineId} {d : Fin 64} (queued : d ∈ (s.line x).queue)
      (same : (s.cancelled x d).SameTables t)
  | openTake {table : TableId} {i : Nat} (same : (s.takeFlags table i).SameTables t)
  | commit (same : s.commitPort.1.SameTables t)
  | erase {table : TableId} {i : Nat} (same : (s.eraseEntry table i).1.SameTables t)

theorem State.SameTables.rowWork {s t : State} (same : s.SameTables t) : s.RowWork t :=
  .event (.refl .a s) same

theorem State.RowWork.refl (s : State) : s.RowWork s := (State.SameTables.refl s).rowWork

theorem State.EventWork.rowWork {x : LineId} {s t : State} (work : State.EventWork x s t) :
    s.RowWork t := .event work (.refl t)

theorem State.QuietWork.completed {x : LineId} {s t : State} (work : State.QuietWork x s t)
    (a : Answer) : s.RowWork (t.complete a) := .event (.quiet work) (t.sameTables_complete a)

theorem State.QuietWork.completedFree {x : LineId} {s t : State} (work : State.QuietWork x s t)
    (r : Result) : s.RowWork (t.completeFree r) :=
  .event (.quiet work) (t.sameTables_completeFree r)

/-! ## Commands -/

theorem State.rowWork_takeStart (s : State) (x : LineId) (k : Fin 8) :
    s.RowWork (s.takeStart x k) := by
  unfold State.takeStart
  split
  · next off =>
    split
    · exact (s.sameTables_complete _).rowWork
    · exact .event ((s.boundaryWork_startLine x k).eventWork (.inr (by simp [off])))
        (State.sameTables_complete _ _)
  · exact (s.sameTables_complete _).rowWork

theorem State.rowWork_takeStopEnd (s : State) (x : LineId) : s.RowWork (s.takeStopEnd x) := by
  unfold State.takeStopEnd
  split
  case h_1 | h_3 => exact (s.sameTables_completeFree _).rowWork
  case h_2 =>
    exact (s.quietWork_changeLine x _ _ _ (by rfl) (by rfl) (by rfl)).completedFree _
  case h_4 => exact (s.quietWork_setLine x _ (by rfl) (by rfl) (by rfl)).completedFree _
  case h_5 | h_6 | h_7 => exact (s.quietWork_goOff x _).completedFree _

theorem State.rowWork_takeStopNow (s : State) (x : LineId) : s.RowWork (s.takeStopNow x) := by
  unfold State.takeStopNow
  split
  · exact (s.sameTables_complete _).rowWork
  · exact .event (.frameEnd (.refl x s) id (State.quietWork_goOff _ x _))
      (State.sameTables_complete _ _)

theorem State.rowWork_takeSwitch (s : State) (x : LineId) (k : Fin 8) :
    s.RowWork (s.takeSwitch x k) := by
  unfold State.takeSwitch
  split
  · split
    · exact (s.sameTables_complete _).rowWork
    · exact (s.quietWork_setLine x _ (by rfl) (by rfl) (by rfl)).completed _
  · exact (s.sameTables_complete _).rowWork

theorem State.rowWork_takeWake (s : State) (x : LineId) : s.RowWork (s.takeWake x) := by
  unfold State.takeWake
  dsimp only
  split
  · exact ((s.quietWork_setLine x _ (by rfl) (by rfl) (by rfl)).trans
      (State.quietWork_goWaking _ x _ _)).completed _
  · exact (s.sameTables_complete _).rowWork

theorem State.rowWork_takeClearFault (s : State) (x : LineId) : s.RowWork (s.takeClearFault x) := by
  unfold State.takeClearFault
  dsimp only
  split
  · split
    · exact (s.sameTables_complete _).rowWork
    · exact ((s.quietWork_setLine x _ (by rfl) (by rfl) (by rfl)).trans
        (State.quietWork_goWaking _ x _ _)).completed _
  · exact (s.sameTables_complete _).rowWork

theorem State.rowWork_takeSupply (s : State) (x : LineId) (d : Fin 64) :
    s.RowWork (s.takeSupply x d) := by
  unfold State.takeSupply
  dsimp only
  split
  · split
    · split
      · exact (s.quietWork_setSeq x _).completed _
      · exact (s.sameTables_complete _).rowWork
    · exact (s.sameTables_complete _).rowWork
  · exact (s.sameTables_complete _).rowWork

theorem State.rowWork_takeEnqueue (s : State) (x : LineId) (d : Fin 64) :
    s.RowWork (s.takeEnqueue x d) := by
  unfold State.takeEnqueue
  split
  · exact (s.sameTables_complete _).rowWork
  · next passes => exact .enqueue passes (State.sameTables_complete _ _)

theorem State.rowWork_takeCancel (s : State) (x : LineId) (d : Fin 64) :
    s.RowWork (s.takeCancel x d) := by
  unfold State.takeCancel
  dsimp only
  split
  · next queued => exact .cancel queued (State.sameTables_complete _ _)
  · exact (s.sameTables_complete _).rowWork

/-! ## Rows and steps -/

theorem State.rowWork_of_next {s t u : State}
    (ends : (.next u : Host.Outcome State Fault Refusal) = .next t) (work : s.RowWork u) :
    s.RowWork t := by
  cases ends
  exact work

/-- Every row of the opcode table does one of the kinds of work. -/
theorem exec_rowWork {c : Instr} {s t : State} (ends : exec c s = .next t) : s.RowWork t := by
  cases c with
  | powerOnReset => exact State.rowWork_of_next ends (.powerOn rfl)
  | start =>
    refine State.rowWork_of_next ends ?_
    split
    · exact s.rowWork_takeStart _ _
    · exact .refl s
  | stopEnd =>
    refine State.rowWork_of_next ends ?_
    split
    · exact s.rowWork_takeStopEnd _
    · exact .refl s
  | stopNow =>
    refine State.rowWork_of_next ends ?_
    split
    · exact s.rowWork_takeStopNow _
    · exact .refl s
  | switch =>
    refine State.rowWork_of_next ends ?_
    split
    · exact s.rowWork_takeSwitch _ _
    · exact .refl s
  | holdSet | holdClear =>
    refine State.rowWork_of_next ends ?_
    split
    · exact .event (s.eventWork_setHoldFlag _ _) (State.sameTables_complete _ _)
    · exact .refl s
  | wake =>
    refine State.rowWork_of_next ends ?_
    split
    · exact s.rowWork_takeWake _
    · exact .refl s
  | clearFault =>
    refine State.rowWork_of_next ends ?_
    split
    · exact s.rowWork_takeClearFault _
    · exact .refl s
  | lineReset =>
    refine State.rowWork_of_next ends ?_
    split
    · exact .lineReset (State.sameTables_complete _ _)
    · exact .refl s
  | supply =>
    refine State.rowWork_of_next ends ?_
    split
    · exact s.rowWork_takeSupply _ _
    · exact .refl s
  | enqueue =>
    refine State.rowWork_of_next ends ?_
    split
    · exact s.rowWork_takeEnqueue _ _
    · exact .refl s
  | cancel =>
    refine State.rowWork_of_next ends ?_
    split
    · exact s.rowWork_takeCancel _ _
    · exact .refl s
  | openPeek =>
    refine State.rowWork_of_next ends ?_
    split
    · exact State.SameTables.rowWork ⟨rfl, rfl, rfl, rfl, rfl, rfl⟩
    · exact .refl s
  | openTake =>
    refine State.rowWork_of_next ends ?_
    split
    · exact .openTake (s.sameTables_openTake _ _ _)
    · exact .refl s
  | commit =>
    refine State.rowWork_of_next ends ?_
    split
    · exact .commit (State.sameTables_complete _ _)
    · exact .refl s
  | erase =>
    refine State.rowWork_of_next ends ?_
    split
    · exact .erase (State.sameTables_complete _ _)
    · exact .refl s
  | pop value | intEnableWrite value | kindMaskWrite value =>
    exact State.rowWork_of_next ends (State.sameTables_busWrite (s.sameTables_setEvents _)).rowWork
  | portPointerWrite value =>
    exact State.rowWork_of_next ends
      (State.sameTables_busWrite (s.sameTables_writePointer value)).rowWork
  | portDataRead => exact State.rowWork_of_next ends s.sameTables_readPortData.rowWork
  | portDataWrite value =>
    exact State.rowWork_of_next ends
      (State.sameTables_busWrite (s.sameTables_writePortData value)).rowWork
  | portStateWrite value =>
    exact State.rowWork_of_next ends (State.sameTables_busWrite s.sameTables_closePort).rowWork
  | registerWrite address value =>
    exact State.rowWork_of_next ends
      (State.sameTables_busWrite (s.sameTables_writeRegister address value)).rowWork
  | cmdWrite value =>
    exact State.rowWork_of_next ends (State.sameTables_busWrite (s.sameTables_setHost _)).rowWork
  | resetnRelease =>
    exact State.rowWork_of_next ends (State.SameTables.rowWork ⟨rfl, rfl, rfl, rfl, rfl, rfl⟩)
  | postTaken path => exact State.rowWork_of_next ends (s.sameTables_setEvents _).rowWork
  | resetRecordsPosted x => exact State.rowWork_of_next ends (s.sameTables_setEvents _).rowWork
  | holdPinLevelChange x => exact State.rowWork_of_next ends (s.eventWork_levelChanges x).rowWork
  | slotEnd x => exact State.rowWork_of_next ends (s.eventWork_slotEnds x).rowWork
  | alertEnd x => exact State.rowWork_of_next ends (s.eventWork_alertEnds x).rowWork
  | markEnd x => exact State.rowWork_of_next ends (s.eventWork_markEnds x).rowWork
  | controlEnd x => exact State.rowWork_of_next ends (s.eventWork_controlEnds x).rowWork
  | readback x bit samples =>
    exact State.rowWork_of_next ends (s.eventWork_compareBit x bit samples).rowWork
  | replyCharacter x first second third =>
    exact State.rowWork_of_next ends (s.eventWork_character x _).rowWork
  | replySpaceEnd x => exact State.rowWork_of_next ends (s.eventWork_replySpaceEnds x).rowWork
  | replyGapEnd x => exact State.rowWork_of_next ends (s.eventWork_replyGapEnds x).rowWork
  | checkCompare x => exact State.rowWork_of_next ends (s.eventWork_compareCheck x).rowWork
  | supplyWindowEnd x => exact State.rowWork_of_next ends (s.eventWork_windowEnds x).rowWork
  | pushSpaceEnd x => exact State.rowWork_of_next ends (s.eventWork_pushSpaceEnds x).rowWork
  | pushEnd x => exact State.rowWork_of_next ends (s.eventWork_pushEnds x).rowWork
  | stuckLineReport x => exact State.rowWork_of_next ends (s.eventWork_reportStuck x).rowWork
  | remoteWake x => exact State.rowWork_of_next ends (s.eventWork_wakeRemotely x).rowWork
  | wakePulseEnd x => exact State.rowWork_of_next ends (s.eventWork_pulseEnds x).rowWork
  | recoveryEnd x => exact State.rowWork_of_next ends (s.eventWork_recoveryEnds x).rowWork
  | replyStartBit x edge samples =>
    exact State.rowWork_of_next ends (s.eventWork_startBit x edge samples).rowWork
  | bitTimeJudged x samples =>
    exact State.rowWork_of_next ends (s.eventWork_judgeBit x samples).rowWork
  | holdPinSample x reading =>
    exact State.rowWork_of_next ends (s.eventWork_samplePin x reading).rowWork

/-- One period of the clock is quiet work of line A and then of line B. -/
theorem tick_quietWork (s : State) :
    ∃ u, State.QuietWork .a s u ∧ State.QuietWork .b u (tick s) :=
  ⟨_, s.quietWork_setLine .a _ (by simp; rfl) (by simp; rfl) (by simp; rfl),
    State.quietWork_setLine _ .b _ (by simp; rfl) (by simp; rfl) (by simp; rfl)⟩

/-- A step is a period of the clock or a row of the opcode table. -/
theorem step_cases {s t : State} (ends : step s = .next t) :
    (∃ u, State.QuietWork .a s u ∧ State.QuietWork .b u t) ∨
      ∃ u, s.SameTables u ∧ u.RowWork t := by
  unfold step at ends
  split at ends
  · cases ends
    exact .inl (tick_quietWork s)
  · next c rest _ =>
    exact .inr ⟨{ s with pending := rest }, ⟨rfl, rfl, rfl, rfl, rfl, rfl⟩, exec_rowWork ends⟩

end Sys2Proof.Machine
end

-- ==== Proofs: what commits and erases write ====
section
/-! What a COMMIT or an ERASE can write, said once for every table (R48, R49, R71 to R73, R77, R144,
R145). -/

namespace Sys2Proof.Machine

/-! ## Range checks -/

theorem directoryFields_inRange {w : Window} (passes : directoryRange w = none) :
    (directoryFields w).InRange := by
  simp only [directoryRange, firstFailing_none, List.forall_mem_cons, inRange, Bool.and_eq_true,
    decide_eq_true_eq] at passes
  obtain ⟨-, first, ⟨count, last⟩, -⟩ := passes
  exact ⟨first.2, count, last⟩

theorem slotFields_inRange {w : Window} (passes : slotRange w = none) : (slotFields w).InRange := by
  simp only [slotRange, firstFailing_none, List.forall_mem_cons, inRange, decide_eq_true_eq,
    List.contains_iff_mem] at passes
  obtain ⟨-, length, divisor, phase, -⟩ := passes
  exact ⟨length, divisor, phase, fun other => if_neg other⟩

theorem nodeFields_inRange {w : Window} (passes : nodeRange w = none) : (nodeFields w).InRange := by
  simp only [nodeRange, firstFailing_none, List.forall_mem_cons, inRange, decide_eq_true_eq,
    List.contains_iff_mem] at passes
  obtain ⟨-, -, misses, errors, divisor, -⟩ := passes
  exact ⟨misses, errors, divisor⟩

theorem settingsFields_inRange {w : Window} (passes : settingsRange w = none) :
    (settingsFields w).InRange := by
  simp only [settingsRange, firstFailing_none, List.forall_mem_cons, inRange,
    decide_eq_true_eq] at passes
  obtain ⟨divisor, alert, mark, replySpace, replyGap, pushSpace, pushGap, supplyWindow, stuckLimit,
    wakePulse, wakeQualify, recovery, -, -, window, -⟩ := passes
  exact ⟨divisor, alert, mark, replySpace, replyGap.2, pushSpace, pushGap.2, supplyWindow,
    stuckLimit, wakePulse, wakeQualify, recovery, window⟩

theorem nodeFields_inUse {w : Window} (passes : nodeRange w = none) :
    (nodeFields w).inUse = true := by
  simp only [nodeRange, firstFailing_none, List.forall_mem_cons] at passes
  exact passes.1

/-- A committed node is UNKNOWN with its counters at 0 (R144). -/
theorem nodeFields_coherent {w : Window} (passes : nodeRange w = none) :
    Node.Coherent { config := nodeFields w, state := .unknown, misses := 0, score := 0 } where
  unused := iff_of_false nofun (by simp [nodeFields_inUse passes])
  misses := Nat.zero_le _
  score := Nat.zero_le _
  missing := nofun
  erratic := nofun
  range := nodeFields_inRange passes

/-! ## Writes -/

/-- What a COMMIT or an ERASE writes: nothing, where it is refused, or one entry of one table, which
is in its range and was free to change. -/
inductive State.TableWrite (s t : State) : Prop
  | refused (same : t = s)
  | commitDescriptor {d : Fin 64} {w : Window} (passes : s.descriptorRefusal d w = none)
      (written : t = s.setDesc d
        { s.desc d with
          config := descriptorFields w,
          data := if (descriptorFields w).direction = .push then descriptorData w
            else (s.desc d).data })
  | eraseDescriptor {d : Fin 64} (free : s.descriptorLocked d = false)
      (written : t = s.setDesc d .initial)
  | directory {k : Fin 8} {v : DirectoryEntry} (free : s.directoryLocked k = false)
      (range : v.InRange) (written : t = s.setDir k v)
  | slot {i : Fin 128} {v : Slot} (free : s.slotLocked i = false) (range : v.InRange)
      (written : t = s.setSlot i v)
  | node {n : Fin 32} {v : Node} (coherent : v.Coherent)
      (free : (s.node n).config.inUse = true →
        s.nodeUser n = none ∨ v.config.inUse = true ∧ v.config.line = (s.node n).config.line)
      (written : t = s.setNode n v)
  | settings {x : LineId} {st : LineSettings} (off : (s.line x).lineState = .off)
      (range : st.InRange) (written : t = s.setLine x { s.line x with settings := st })

theorem State.commitDescriptor_tableWrite (s : State) (d : Fin 64) (w : Window) :
    s.TableWrite (s.commitDescriptor d w).1 := by
  unfold State.commitDescriptor
  split
  · exact .refused rfl
  · next passes => exact .commitDescriptor passes rfl

theorem State.commitDirectory_tableWrite (s : State) (k : Fin 8) (w : Window) :
    s.TableWrite (s.commitDirectory k w).1 := by
  unfold State.commitDirectory
  split
  · exact .refused rfl
  · next range =>
    split
    · exact .refused rfl
    · next free => exact .directory (by simpa using free) (directoryFields_inRange range) rfl

theorem State.commitSlot_tableWrite (s : State) (i : Fin 128) (w : Window) :
    s.TableWrite (s.commitSlot i w).1 := by
  unfold State.commitSlot
  split
  · exact .refused rfl
  · next range =>
    split
    · exact .refused rfl
    · next free => exact .slot (by simpa using free) (slotFields_inRange range) rfl

theorem State.commitNode_tableWrite (s : State) (n : Fin 32) (w : Window) :
    s.TableWrite (s.commitNode n w).1 := by
  unfold State.commitNode
  split
  · exact .refused rfl
  · next range =>
    dsimp only
    split
    · split
      · exact .refused rfl
      · next unused => exact .node (nodeFields_coherent range) (fun _ => .inl unused) rfl
    · next stays =>
      refine .node (nodeFields_coherent range) (fun inUse => .inr ⟨nodeFields_inUse range, ?_⟩) rfl
      simpa [inUse] using stays

theorem State.commitSettings_tableWrite (s : State) (x : LineId) (w : Window) :
    s.TableWrite (s.commitSettings x w).1 := by
  unfold State.commitSettings
  split
  · next off =>
    split
    · exact .refused rfl
    · next range => exact .settings off (settingsFields_inRange range) rfl
  · exact .refused rfl

theorem State.commitPort_tableWrite (s : State) : s.TableWrite s.commitPort.1 := by
  unfold State.commitPort
  split
  · split
    case h_1 => exact s.commitDescriptor_tableWrite _ _
    case h_2 => exact s.commitSlot_tableWrite _ _
    case h_3 => exact s.commitDirectory_tableWrite _ _
    case h_4 => exact s.commitNode_tableWrite _ _
    case h_5 => exact s.commitSettings_tableWrite _ _
    case h_6 => exact .refused rfl
  · exact .refused rfl

theorem State.eraseEntry_tableWrite (s : State) (table : TableId) (i : Nat) :
    s.TableWrite (s.eraseEntry table i).1 := by
  cases table with
  | descriptor =>
    unfold State.eraseEntry State.eraseDescriptor
    dsimp only
    split
    · exact .refused rfl
    · next free => exact .eraseDescriptor (by simpa using free) rfl
  | slot =>
    unfold State.eraseEntry State.eraseSlot
    dsimp only
    split
    · exact .refused rfl
    · next free => exact .slot (by simpa using free) (by decide) rfl
  | directory =>
    unfold State.eraseEntry State.eraseDirectory
    dsimp only
    split
    · exact .refused rfl
    · next free => exact .directory (by simpa using free) (by decide) rfl
  | node =>
    unfold State.eraseEntry State.eraseNode
    dsimp only
    split
    · split
      · exact .refused rfl
      · next unused => exact .node Node.initial_coherent (fun _ => .inl unused) rfl
    · next unused => exact .node Node.initial_coherent (fun inUse => absurd inUse unused) rfl
  | line =>
    unfold State.eraseEntry State.eraseSettings
    dsimp only
    split
    · next off => exact .settings off (by decide) rfl
    · exact .refused rfl
  | adhoc => exact .refused rfl

end Sys2Proof.Machine
end

-- ==== Proofs: the tables in range ====
section
/-! Every step keeps every table entry in its range, tags unique, and overwritten set only while
unread is (R39, R46, R51, R58, R59, R76, R77, R136). -/

namespace Sys2Proof.Machine

/-! ## The freshness flags -/

/-- Overwritten is set only while unread is (R51). -/
def Descriptor.Fresh (v : Descriptor) : Prop := v.overwritten = true → v.unread = true

theorem Descriptor.Fresh.of_frameCounter {v w : Descriptor} (h : v.Fresh)
    (same : w = { v with frameCounter := w.frameCounter }) : w.Fresh := by
  rw [same]
  exact h

/-- A report sets overwritten together with unread, or leaves both (R51, R52). -/
theorem Descriptor.Fresh.report {v : Descriptor} (h : v.Fresh) (r : FrameReport) (erratic : Bool) :
    (v.report r erratic).Fresh := by
  unfold Descriptor.report
  split
  · exact fun _ => rfl
  · exact h

theorem State.setAdhoc_fresh {s : State} (h : ∀ d, (s.desc d).Fresh) (e : Fin 64) (view : AdhocView)
    (d : Fin 64) : ((s.setAdhoc e view).desc d).Fresh := by
  rw [State.setAdhoc_desc]
  split
  · exact h d
  · exact h d

theorem State.setDesc_fresh {s : State} (h : ∀ d, (s.desc d).Fresh) {e : Fin 64} {v : Descriptor}
    (own : v.Fresh) (d : Fin 64) : ((s.setDesc e v).desc d).Fresh := by
  rw [State.setDesc_desc]
  split
  · exact own
  · exact h d

@[simp] theorem State.postFrame_desc (s : State) (e d : Fin 64) (r : FrameReport) :
    (s.postFrame e r).desc d = s.desc d := by
  unfold State.postFrame
  split <;> rfl

@[simp] theorem State.monitorReport_desc (s : State) (e d : Fin 64) (r : FrameReport) :
    (s.monitorReport e r).desc d = s.desc d := by
  rw [State.monitorReport_eq]
  split
  · rfl
  · simp [State.nodeReport_eq]

theorem State.tableReport_fresh {s : State} (h : ∀ d, (s.desc d).Fresh) (e : Fin 64)
    (r : FrameReport) (d : Fin 64) : ((s.tableReport e r).desc d).Fresh := by
  have reported := State.setDesc_fresh h (e := e) ((h e).report r (s.nodeErratic (s.desc e))) d
  unfold State.tableReport
  dsimp only
  split
  · simpa using reported
  · exact reported

theorem State.deliver_fresh {s : State} (h : ∀ d, (s.desc d).Fresh) (r : FrameReport)
    (d : Fin 64) : ((s.deliver r).desc d).Fresh := by
  unfold State.deliver
  split
  · next e _ =>
    have reported : ∀ d, (((s.tableReport e r).monitorReport e r).desc d).Fresh := fun d => by
      simpa using State.tableReport_fresh h e r d
    dsimp only
    split
    · exact State.setAdhoc_fresh (fun d => by simpa using reported d) e .none d
    · exact reported d
  · unfold State.endHush
    split
    · simpa using h d
    · exact h d

theorem State.endFrame_fresh {s : State} (h : ∀ d, (s.desc d).Fresh) (x : LineId)
    (o : FrameOutcome) (reply : List Byte) (d : Fin 64) :
    ((s.endFrame x o reply).desc d).Fresh := by
  have ended : ∀ d, ((s.setSeq x (s.line x).seq.ended).desc d).Fresh := by simpa using h
  unfold State.endFrame
  split
  · exact h d
  · dsimp only
    split
    · exact State.deliver_fresh ended _ d
    · exact ended d

theorem State.serve_fresh (x : LineId) (slotLength : Nat) (queue : List (Fin 64)) (s : State)
    (h : ∀ d, (s.desc d).Fresh) (d : Fin 64) : ((s.serve x slotLength queue).desc d).Fresh := by
  induction queue generalizing s with
  | nil => simpa [State.serve] using h d
  | cons e rest ih =>
    unfold State.serve
    dsimp only
    split
    · simpa [State.startFrame] using
        State.setAdhoc_fresh (s := s.setLine x _) (by simpa using h) e _ d
    · refine ih _ fun d => ?_
      exact State.setAdhoc_fresh (s := s.setLine x _) (by simpa using h) e .none d

theorem State.slotWork_fresh {s : State} (h : ∀ d, (s.desc d).Fresh) (x : LineId) (i : Fin 128)
    (d : Fin 64) : ((s.slotWork x i).desc d).Fresh := by
  unfold State.slotWork
  dsimp only
  split
  case h_1 | h_2 | h_4 => exact h d
  case h_3 =>
    split
    · simpa [State.startFrame] using h d
    · exact h d
  case h_5 => exact State.serve_fresh x _ _ s h d
  case h_6 => simpa [State.startHush] using h d

theorem State.beginSlot_fresh {s : State} (h : ∀ d, (s.desc d).Fresh) (x : LineId) (n : Nat)
    (d : Fin 64) : ((s.beginSlot x n).desc d).Fresh := by
  have begun : ∀ l d, ((s.setLine x l).desc d).Fresh := fun _ => by simpa using h
  unfold State.beginSlot
  dsimp only
  split
  · exact begun _ d
  · split
    · exact State.slotWork_fresh (begun _) x _ d
    · exact begun _ d

theorem State.QuietWork.fresh {x : LineId} {s t : State} (work : State.QuietWork x s t)
    (h : ∀ d, (s.desc d).Fresh) (d : Fin 64) : (t.desc d).Fresh :=
  (h d).of_frameCounter (work.descs d)

theorem State.EventWork.fresh {x : LineId} {s t : State} (work : State.EventWork x s t)
    (h : ∀ d, (s.desc d).Fresh) (d : Fin 64) : (t.desc d).Fresh := by
  cases work with
  | quiet work => exact work.fresh h d
  | frameEnd before _ after => exact after.fresh (State.endFrame_fresh (before.fresh h) x _ _) d
  | slotStart _ before start => exact start ▸ State.beginSlot_fresh (before.fresh h) x _ d

theorem State.flushViews_fresh (queue : List (Fin 64)) (s : State) (h : ∀ d, (s.desc d).Fresh)
    (d : Fin 64) : ((s.flushViews queue).desc d).Fresh := by
  induction queue generalizing s with
  | nil => exact h d
  | cons e rest ih => exact ih _ (State.setAdhoc_fresh h e .none)

theorem State.resetLine_fresh {s : State} (h : ∀ d, (s.desc d).Fresh) (x : LineId) (d : Fin 64) :
    ((s.resetLine x).desc d).Fresh := by
  simpa [State.resetLine] using
    State.flushViews_fresh _ _ (State.endFrame_fresh h x .cancelled []) d

/-! ## Entries that stand -/

/-- Every configuration, every settings record and the schedule store are as they were. -/
structure State.SameConfigs (s t : State) : Prop where
  settings  : ∀ x, (t.line x).settings = (s.line x).settings
  descs     : ∀ d, (t.desc d).config = (s.desc d).config
  directory : ∀ k, t.dir k = s.dir k
  slots     : ∀ i, t.slot i = s.slot i
  nodes     : ∀ n, (t.node n).config = (s.node n).config

theorem State.SameTables.sameConfigs {s t : State} (h : s.SameTables t) : s.SameConfigs t where
  settings x := by rw [h.line]
  descs d := by rw [h.desc]
  directory := h.dir
  slots := h.slot
  nodes n := by rw [h.node]

theorem State.LineWork.sameConfigs {x : LineId} {s t : State} (work : State.LineWork x s t) :
    s.SameConfigs t where
  settings y := by
    by_cases same : y = x
    · exact same ▸ work.settings
    · rw [work.other y same]
  descs := work.configs
  directory k := by rw [State.dir, work.directory, State.dir]
  slots i := by rw [State.slot, work.slots, State.slot]
  nodes := work.nodeConfigs

theorem State.SameConfigs.trans {s t u : State} (h : s.SameConfigs t) (k : t.SameConfigs u) :
    s.SameConfigs u where
  settings x := (k.settings x).trans (h.settings x)
  descs d := (k.descs d).trans (h.descs d)
  directory i := (k.directory i).trans (h.directory i)
  slots i := (k.slots i).trans (h.slots i)
  nodes n := (k.nodes n).trans (h.nodes n)

@[simp] theorem State.flushViews_config (s : State) (queue : List (Fin 64)) (d : Fin 64) :
    ((s.flushViews queue).desc d).config = (s.desc d).config := by
  induction queue generalizing s with
  | nil => rfl
  | cons e rest ih => exact (ih _).trans (s.setAdhoc_config e d _)

@[simp] theorem State.flushViews_dir (s : State) (queue : List (Fin 64)) (k : Fin 8) :
    (s.flushViews queue).dir k = s.dir k := by
  induction queue generalizing s with
  | nil => rfl
  | cons e rest ih => exact ih _

@[simp] theorem State.flushViews_slot (s : State) (queue : List (Fin 64)) (i : Fin 128) :
    (s.flushViews queue).slot i = s.slot i := by
  induction queue generalizing s with
  | nil => rfl
  | cons e rest ih => exact ih _

@[simp] theorem State.flushViews_node (s : State) (queue : List (Fin 64)) (n : Fin 32) :
    (s.flushViews queue).node n = s.node n := by
  induction queue generalizing s with
  | nil => rfl
  | cons e rest ih => exact ih _

@[simp] theorem Node.lineReset_config (x : LineId) (n : Node) :
    (n.lineReset x).config = n.config := by
  unfold Node.lineReset
  split <;> rfl

theorem State.resetLine_sameConfigs (s : State) (x : LineId) : s.SameConfigs (s.resetLine x) := by
  have ended := (s.lineWork_endFrame x .cancelled []).sameConfigs
  refine ended.trans ?_
  constructor
  · intro y
    simp only [State.resetLine, State.setEvents_line, State.setLine_line, State.mapNodes_line,
      State.flushViews_line]
    split
    · next same => rw [same]; rfl
    · rfl
  all_goals simp [State.resetLine]

theorem State.enqueued_sameConfigs (s : State) (x : LineId) (d : Fin 64) :
    s.SameConfigs (s.enqueued x d) :=
  ((s.lineWork_setLine x _ (by rfl)).trans (State.lineWork_setAdhoc _ x d _)).sameConfigs

theorem State.cancelled_sameConfigs (s : State) (x : LineId) (d : Fin 64) :
    s.SameConfigs (s.cancelled x d) :=
  ((s.lineWork_setLine x _ (by rfl)).trans (State.lineWork_setAdhoc _ x d _)).sameConfigs

theorem State.TablesInRange.of_sameConfigs {s t : State} (h : s.TablesInRange)
    (same : s.SameConfigs t) (flags : ∀ d, (t.desc d).Fresh) : t.TablesInRange where
  settings x := same.settings x ▸ h.settings x
  descriptors d := same.descs d ▸ h.descriptors d
  directory k := same.directory k ▸ h.directory k
  slots i := same.slots i ▸ h.slots i
  nodes n := same.nodes n ▸ h.nodes n
  tags d e := by
    rw [same.descs d, same.descs e]
    exact h.tags d e
  flags := flags

theorem State.TablesInRange.of_sameTables {s t : State} (h : s.TablesInRange)
    (same : s.SameTables t) : t.TablesInRange :=
  h.of_sameConfigs same.sameConfigs fun d => same.desc d ▸ h.flags d

/-! ## Entries that are written -/

theorem State.TablesInRange.setDir {s : State} (h : s.TablesInRange) (k : Fin 8)
    {v : DirectoryEntry} (own : v.InRange) : (s.setDir k v).TablesInRange where
  settings x := by simpa using h.settings x
  descriptors d := h.descriptors d
  directory j := by
    rw [State.setDir_dir]
    split
    · exact own
    · exact h.directory j
  slots i := h.slots i
  nodes n := h.nodes n
  tags d e := h.tags d e
  flags d := h.flags d

theorem State.TablesInRange.setSlot {s : State} (h : s.TablesInRange) (i : Fin 128) {v : Slot}
    (own : v.InRange) : (s.setSlot i v).TablesInRange where
  settings x := by simpa using h.settings x
  descriptors d := h.descriptors d
  directory k := h.directory k
  slots j := by
    rw [State.setSlot_slot]
    split
    · exact own
    · exact h.slots j
  nodes n := h.nodes n
  tags d e := h.tags d e
  flags d := h.flags d

theorem State.TablesInRange.setNode {s : State} (h : s.TablesInRange) (n : Fin 32) {v : Node}
    (own : v.config.InRange) : (s.setNode n v).TablesInRange where
  settings x := by simpa using h.settings x
  descriptors d := h.descriptors d
  directory k := h.directory k
  slots i := h.slots i
  nodes m := by
    rw [State.setNode_node]
    split
    · exact own
    · exact h.nodes m
  tags d e := h.tags d e
  flags d := h.flags d

theorem State.TablesInRange.with_settings {s : State} (h : s.TablesInRange) (x : LineId)
    {st : LineSettings} (own : st.InRange) :
    (s.setLine x { s.line x with settings := st }).TablesInRange where
  settings y := by
    rw [State.setLine_line]
    split
    · exact own
    · exact h.settings y
  descriptors d := by simpa using h.descriptors d
  directory k := by simpa using h.directory k
  slots i := by simpa using h.slots i
  nodes n := by simpa using h.nodes n
  tags d e := by simpa using h.tags d e
  flags d := by simpa using h.flags d

/-- A descriptor is written: in its range, in use only with a tag of its own, its flags coherent. -/
theorem State.TablesInRange.setDesc {s : State} (h : s.TablesInRange) (d : Fin 64) {v : Descriptor}
    (range : v.config.InRange) (flags : v.Fresh)
    (tag : v.config.inUse = true → ∀ e, ¬ s.TagClash d v.config e) :
    (s.setDesc d v).TablesInRange where
  settings x := by simpa using h.settings x
  descriptors e := by
    rw [State.setDesc_desc]
    split
    · exact range
    · exact h.descriptors e
  directory k := h.directory k
  slots i := h.slots i
  nodes n := h.nodes n
  tags e f := by
    rw [State.setDesc_desc, State.setDesc_desc]
    intro apart
    by_cases first : d = e
    · have second : d ≠ f := first ▸ apart
      rw [if_pos first, if_neg second]
      exact fun own other line same => tag own f ⟨second.symm, other, line.symm, same.symm⟩
    · rw [if_neg first]
      by_cases second : d = f
      · rw [if_pos second]
        exact fun other own line same => tag own e ⟨Ne.symm first, other, line, same⟩
      · rw [if_neg second]
        exact h.tags e f apart
  flags := State.setDesc_fresh h.flags flags

/-! ## Commits and erases -/

/-- A commit writes what has passed its range and tag checks, an erase the power-on values. -/
theorem State.TablesInRange.tableWrite {s t : State} (h : s.TablesInRange) (write : s.TableWrite t) :
    t.TablesInRange := by
  cases write with
  | refused same => exact same ▸ h
  | @commitDescriptor d w passes written =>
    obtain ⟨range, -, tag, -⟩ := State.descriptorRefusal_eq_none.mp passes
    exact written ▸ h.setDesc d (descriptorFields_inRange range) (h.flags d)
      fun _ => State.duplicateTag_eq_none.mp tag
  | @eraseDescriptor d _ written =>
    exact written ▸ h.setDesc d (by decide) (fun overwritten => nomatch overwritten)
      fun inUse => nomatch inUse
  | directory _ range written => exact written ▸ h.setDir _ range
  | slot _ range written => exact written ▸ h.setSlot _ range
  | node coherent _ written => exact written ▸ h.setNode _ coherent.range
  | settings _ range written => exact written ▸ h.with_settings _ range

/-- OPEN_TAKE clears both flags of a descriptor (R55). -/
theorem State.TablesInRange.takeFlags {s : State} (h : s.TablesInRange) (table : TableId)
    (i : Nat) : (s.takeFlags table i).TablesInRange := by
  cases table with
  | descriptor =>
    let d := entry 64 (by decide) i
    refine h.setDesc d (h.descriptors d) (fun overwritten => nomatch overwritten) ?_
    exact fun inUse e clash => h.tags e d clash.1 clash.2.1 inUse clash.2.2.1 clash.2.2.2
  | _ => exact h

/-! ## The step -/

theorem State.TablesInRange.row {s t : State} (h : s.TablesInRange) (work : s.RowWork t) :
    t.TablesInRange := by
  have flags : ∀ d, (s.desc d).Fresh := h.flags
  cases work with
  | powerOn reset =>
    subst reset
    exact State.reset_tablesInRange.of_sameTables ⟨rfl, rfl, rfl, rfl, rfl, rfl⟩
  | event work same =>
    exact (h.of_sameConfigs work.lineWork.sameConfigs (work.fresh h.flags)).of_sameTables same
  | lineReset same =>
    exact (h.of_sameConfigs (s.resetLine_sameConfigs _)
      (State.resetLine_fresh h.flags _)).of_sameTables same
  | enqueue _ same =>
    exact (h.of_sameConfigs (s.enqueued_sameConfigs _ _)
      (State.setAdhoc_fresh (by simpa using flags) _ _)).of_sameTables same
  | cancel _ same =>
    exact (h.of_sameConfigs (s.cancelled_sameConfigs _ _)
      (State.setAdhoc_fresh (by simpa using flags) _ _)).of_sameTables same
  | openTake same => exact (h.takeFlags _ _).of_sameTables same
  | commit same => exact (h.tableWrite s.commitPort_tableWrite).of_sameTables same
  | erase same => exact (h.tableWrite (s.eraseEntry_tableWrite _ _)).of_sameTables same

theorem State.TablesInRange.quietWork {x : LineId} {s t : State} (h : s.TablesInRange)
    (work : State.QuietWork x s t) : t.TablesInRange :=
  h.of_sameConfigs work.toLineWork.sameConfigs (work.fresh h.flags)

/-- Settles O56: a clock period and the work of a line leave every configuration and settings record;
a commit writes what its range and tag checks have passed, an erase the power-on values. -/
theorem everyStepKeepsTheTablesInRange : Obligations.EveryStepKeepsTheTablesInRange := by
  intro s t h ends
  obtain ⟨u, lineA, lineB⟩ | ⟨u, same, work⟩ := step_cases ends
  · exact (h.quietWork lineA).quietWork lineB
  · exact (h.of_sameTables same).row work

end Sys2Proof.Machine
end

-- ==== Proofs: the ad-hoc views ====
section
/-! Every step keeps the ad-hoc state of every descriptor the view of its line's queue and in-flight
request (R57, R110). -/

namespace Sys2Proof.Machine

/-! ## Views and requests -/

/-- The ad-hoc states are the views of the queues and in-flight requests: the part of `AdhocViews`
that does not speak of the rest of a controller. -/
structure State.ViewsMatch (s : State) : Prop where
  queued   : ∀ x d, d ∈ (s.line x).queue ↔
    (s.desc d).adhoc = .queued ∧ (s.desc d).config.line = x
  inFlight : ∀ x d, (s.line x).inFlight = some d ↔
    (s.desc d).adhoc = .inFlight ∧ (s.desc d).config.line = x
  inUse    : ∀ d, (s.desc d).adhoc ≠ .none → (s.desc d).config.inUse = true

theorem State.adhocViews_iff (s : State) : s.AdhocViews ↔ s.LinesCoherent ∧ s.ViewsMatch :=
  ⟨fun h => ⟨h.lines, h.queued, h.inFlight, h.inUse⟩,
    fun ⟨lines, views⟩ => ⟨lines, views.queued, views.inFlight, views.inUse⟩⟩

/-- Some requests leave their queues or end, and the ad-hoc states of their descriptors become NONE. -/
theorem State.ViewsMatch.withdraw {s t : State} (h : s.ViewsMatch) (out : List (Fin 64))
    (configs : ∀ d, (t.desc d).config = (s.desc d).config)
    (views : ∀ d, (t.desc d).adhoc = if d ∈ out then .none else (s.desc d).adhoc)
    (requests : ∀ x d, d ∈ (t.line x).queue ↔ d ∈ (s.line x).queue ∧ d ∉ out)
    (flights : ∀ x d, (t.line x).inFlight = some d ↔ (s.line x).inFlight = some d ∧ d ∉ out) :
    t.ViewsMatch where
  queued x d := by
    rw [requests, configs, views, h.queued]
    split
    · next gone => simp [gone]
    · next kept => simp [kept]
  inFlight x d := by
    rw [flights, configs, views, h.inFlight]
    split
    · next gone => simp [gone]
    · next kept => simp [kept]
  inUse d := by
    rw [configs, views]
    split
    · simp
    · exact h.inUse d

/-- A request of a free descriptor enters the queue of its line or its flight, as its view says. -/
theorem State.ViewsMatch.enters {s t : State} (h : s.ViewsMatch) {x : LineId} {d : Fin 64}
    {v : AdhocView} (free : (s.desc d).adhoc = .none) (line : (s.desc d).config.line = x)
    (inUse : (s.desc d).config.inUse = true)
    (configs : ∀ e, (t.desc e).config = (s.desc e).config)
    (views : ∀ e, (t.desc e).adhoc = if e = d then v else (s.desc e).adhoc)
    (requests : ∀ y e, e ∈ (t.line y).queue ↔
      e ∈ (s.line y).queue ∨ v = .queued ∧ x = y ∧ e = d)
    (flights : ∀ y e, (t.line y).inFlight = some e ↔
      (s.line y).inFlight = some e ∨ v = .inFlight ∧ x = y ∧ e = d) : t.ViewsMatch where
  queued y e := by
    rw [requests, configs, views, h.queued]
    split
    · next same => simp [same, free, line]
    · next other => simp [other]
  inFlight y e := by
    rw [flights, configs, views, h.inFlight]
    split
    · next same => simp [same, free, line]
    · next other => simp [other]
  inUse e := by
    rw [configs, views]
    split
    · next same => exact fun _ => same ▸ inUse
    · exact h.inUse e

/-- Requests, ad-hoc states and configurations stand. -/
theorem State.ViewsMatch.stand {s t : State} (h : s.ViewsMatch)
    (configs : ∀ d, (t.desc d).config = (s.desc d).config)
    (views : ∀ d, (t.desc d).adhoc = (s.desc d).adhoc)
    (requests : ∀ x, (t.line x).queue = (s.line x).queue)
    (flights : ∀ x, (t.line x).inFlight = (s.line x).inFlight) : t.ViewsMatch :=
  h.withdraw [] configs (by simpa using views) (by simp [requests]) (by simp [flights])

theorem State.ViewsMatch.setLine {s : State} (h : s.ViewsMatch) (x : LineId) {l : LineController}
    (requests : l.queue = (s.line x).queue) (flight : l.inFlight = (s.line x).inFlight) :
    (s.setLine x l).ViewsMatch := by
  refine h.stand (by simp) (by simp) (fun y => ?_) (fun y => ?_) <;> rw [State.setLine_line] <;> split
  · next same => rw [same, requests]
  · rfl
  · next same => rw [same, flight]
  · rfl

theorem State.ViewsMatch.of_sameTables {s t : State} (h : s.ViewsMatch) (same : s.SameTables t) :
    t.ViewsMatch :=
  h.stand (fun d => by rw [same.desc]) (fun d => by rw [same.desc]) (fun x => by rw [same.line])
    (fun x => by rw [same.line])

theorem State.ViewsMatch.quietWork {x : LineId} {s t : State} (h : s.ViewsMatch)
    (work : State.QuietWork x s t) : t.ViewsMatch := by
  have lines : ∀ y, (t.line y).queue = (s.line y).queue ∧
      (t.line y).inFlight = (s.line y).inFlight := by
    intro y
    by_cases same : y = x
    · exact same ▸ ⟨work.requests, work.inFlight⟩
    · rw [work.other y same]
      exact ⟨rfl, rfl⟩
  exact h.stand work.configs (fun d => by rw [work.descs d]) (fun y => (lines y).1)
    (fun y => (lines y).2)

/-! ## Frames -/

theorem State.ViewsMatch.not_queued {s : State} (h : s.ViewsMatch) {x : LineId} {d : Fin 64}
    (flight : (s.line x).inFlight = some d) (y : LineId) : d ∉ (s.line y).queue := by
  intro queued
  have view := ((h.inFlight x d).mp flight).1
  exact absurd (view.symm.trans ((h.queued y d).mp queued).1) (by decide)

theorem State.ViewsMatch.flight_line {s : State} (h : s.ViewsMatch) {x y : LineId} {d : Fin 64}
    (flight : (s.line x).inFlight = some d) (other : (s.line y).inFlight = some d) : y = x :=
  ((h.inFlight y d).mp other).2.symm.trans ((h.inFlight x d).mp flight).2

/-- The end of the in-flight request of a line (R116). -/
theorem State.ViewsMatch.flightEnds {s t : State} {x : LineId} {d : Fin 64} (h : s.ViewsMatch)
    (flight : (s.line x).inFlight = some d) (configs : ∀ e, (t.desc e).config = (s.desc e).config)
    (view : (t.desc d).adhoc = .none) (others : ∀ e, e ≠ d → (t.desc e).adhoc = (s.desc e).adhoc)
    (requests : ∀ y, (t.line y).queue = (s.line y).queue) (landed : (t.line x).inFlight = none)
    (otherLine : ∀ y, y ≠ x → (t.line y).inFlight = (s.line y).inFlight) : t.ViewsMatch := by
  refine h.withdraw [d] configs (fun e => ?_) (fun y e => ?_) (fun y e => ?_) <;>
    simp only [List.mem_singleton]
  · split
    · next same => rw [same, view]
    · next other => exact others e other
  · rw [requests y]
    exact ⟨fun queued => ⟨queued, fun same => h.not_queued flight y (same ▸ queued)⟩, And.left⟩
  · by_cases same : y = x
    · subst same
      rw [landed, flight]
      exact iff_of_false nofun fun ⟨flown, other⟩ => other (Option.some_inj.mp flown).symm
    · rw [otherLine y same]
      exact ⟨fun flown => ⟨flown, fun isD => same (h.flight_line flight (isD ▸ flown))⟩, And.left⟩

/-- A descriptor's frame that ends takes its ad-hoc request with it, if it is one (R116). -/
theorem State.ViewsMatch.frameEnded {s t : State} {x : LineId} {d : Fin 64} {source : FrameSource}
    {kind : FrameKind} {o : FrameOutcome} {reply : List Byte} (h : s.ViewsMatch)
    (coherent : (s.line x).Coherent) (frame : s.DescriptorFrame x d source kind)
    (ended : State.FrameEnded x d source kind o reply s t) : t.ViewsMatch := by
  obtain ⟨-, isSource, -, isDescriptor, -⟩ := frame
  have configs : ∀ e, (t.desc e).config = (s.desc e).config := fun e => by
    by_cases same : e = d
    · rw [same, ended.desc]
    · rw [ended.otherDesc e same]
  have others : ∀ e, e ≠ d → (t.desc e).adhoc = (s.desc e).adhoc := fun e other => by
    rw [ended.otherDesc e other]
  have requests : ∀ y, (t.line y).queue = (s.line y).queue := fun y => by
    by_cases same : y = x
    · rw [same, ended.line]
    · rw [ended.otherLine y same]
  have otherLine : ∀ y, y ≠ x → (t.line y).inFlight = (s.line y).inFlight := fun y other => by
    rw [ended.otherLine y other]
  by_cases adHoc : source = .adHoc
  · have flight : (s.line x).inFlight = some d := by
      rw [coherent.inFlight, isSource, adHoc, if_pos rfl, isDescriptor]
    refine h.flightEnds flight configs ?_ others requests ?_ otherLine
    · rw [ended.desc]
      exact if_pos adHoc
    · rw [ended.line]
      exact if_pos adHoc
  · refine h.stand configs (fun e => ?_) requests (fun y => ?_)
    · by_cases same : e = d
      · rw [same, ended.desc]
        exact if_neg adHoc
      · exact others e same
    · by_cases same : y = x
      · rw [same, ended.line]
        exact if_neg adHoc
      · exact otherLine y same

/-- A hush frame is no request (R123). -/
theorem State.ViewsMatch.hushEnded {s t : State} {x : LineId} {o : FrameOutcome} (h : s.ViewsMatch)
    (ended : State.HushEnded x o s t) : t.ViewsMatch := by
  have descs : ∀ d, t.desc d = s.desc d := fun d =>
    (congrArg (State.desc · d) ended.rest).trans (by simp)
  have lines : ∀ y, (t.line y).queue = (s.line y).queue ∧
      (t.line y).inFlight = (s.line y).inFlight := fun y => by
    by_cases same : y = x
    · rw [same, ended.line]
      exact ⟨rfl, rfl⟩
    · have kept : t.line y = s.line y :=
        (congrArg (State.line · y) ended.rest).trans (by simp [State.setLine_line, same])
      rw [kept]
      exact ⟨rfl, rfl⟩
  exact h.stand (fun d => by rw [descs]) (fun d => by rw [descs]) (fun y => (lines y).1)
    (fun y => (lines y).2)

theorem State.ViewsMatch.endFrame {s : State} {x : LineId} (h : s.ViewsMatch)
    (coherent : (s.line x).Coherent) (o : FrameOutcome) (reply : List Byte) :
    (s.endFrame x o reply).ViewsMatch := by
  by_cases idle : (s.line x).seq.frameState = .idle
  · rwa [s.endFrame_idle x o reply idle]
  · obtain ⟨d, source, kind, frame⟩ | frame := State.frame_cases_of_coherent coherent idle
    · exact h.frameEnded coherent frame (s.endFrame_ended_now x d source kind o reply frame)
    · exact h.hushEnded (s.endFrame_hush_now x o reply frame)

/-! ## Slots -/

/-- The head of the queue leaves it (R114), and so does a request that is cancelled (R112). -/
theorem State.ViewsMatch.leaves {s : State} {x : LineId} {d : Fin 64} (h : s.ViewsMatch)
    (queued : d ∈ (s.line x).queue) {rest : List (Fin 64)}
    (others : ∀ e, e ∈ rest ↔ e ∈ (s.line x).queue ∧ e ≠ d) :
    ((s.setLine x { s.line x with queue := rest }).setAdhoc d .none).ViewsMatch := by
  obtain ⟨view, line⟩ := (h.queued x d).mp queued
  refine h.withdraw [d] (by simp) (fun e => ?_) (fun y e => ?_) (fun y e => ?_) <;>
    simp only [List.mem_singleton, State.setAdhoc_desc, State.setAdhoc_line, State.setLine_desc,
      State.setLine_line]
  · split
    · next same => rw [if_pos same.symm]
    · next other => rw [if_neg (Ne.symm other)]
  · split
    · next same => rw [same]; exact others e
    · next other =>
      refine ⟨fun queued' => ⟨queued', ?_⟩, And.left⟩
      rintro rfl
      exact other (((h.queued y e).mp queued').2.symm.trans line)
  · have kept : (if y = x then { s.line x with queue := rest } else s.line y).inFlight
        = (s.line y).inFlight := by
      split
      · next same => rw [same]
      · rfl
    rw [kept]
    refine ⟨fun flight => ⟨flight, ?_⟩, And.left⟩
    rintro rfl
    exact absurd (view.symm.trans ((h.inFlight y e).mp flight).1) (by decide)

/-- The first request that fits leaves the queue and becomes the in-flight request (R114). -/
theorem State.ViewsMatch.takesOff {s : State} {x : LineId} {d : Fin 64} (h : s.ViewsMatch)
    (queued : d ∈ (s.line x).queue) {rest : List (Fin 64)}
    (others : ∀ e, e ∈ rest ↔ e ∈ (s.line x).queue ∧ e ≠ d)
    (grounded : (s.line x).inFlight = none) :
    ((s.setLine x { s.line x with queue := rest, inFlight := some d }).setAdhoc d
      .inFlight).ViewsMatch := by
  obtain ⟨view, line⟩ := (h.queued x d).mp queued
  have inUse := h.inUse d (by simp [view])
  refine (h.leaves queued others).enters (x := x) (d := d) (v := .inFlight)
    (by simp [State.setAdhoc_desc]) (by simpa using line) (by simpa using inUse) (by simp)
    (fun e => ?_) (fun y e => ?_) (fun y e => ?_)
  · simp only [State.setAdhoc_desc, State.setLine_desc, eq_comm (a := e)]
    split <;> rfl
  · simp only [State.setAdhoc_line, State.setLine_line]
    split <;> simp
  · simp only [State.setAdhoc_line, State.setLine_line]
    split
    · next same => simp [same, grounded, eq_comm]
    · next other => simp [Ne.symm other]

/-- An OPEN slot serves the queue of a line that has no request in flight (R114). -/
theorem State.serve_viewsMatch (x : LineId) (slotLength : Nat) (queue : List (Fin 64)) (s : State)
    (h : s.ViewsMatch) (isQueue : (s.line x).queue = queue) (distinct : queue.Nodup)
    (grounded : (s.line x).inFlight = none) : (s.serve x slotLength queue).ViewsMatch := by
  induction queue generalizing s with
  | nil => exact h.quietWork (s.quietWork_setLine x _ (by rfl) isQueue.symm (by rfl))
  | cons d rest ih =>
    obtain ⟨out, distinct⟩ := List.nodup_cons.mp distinct
    have queued : d ∈ (s.line x).queue := by simp [isQueue]
    have others : ∀ e, e ∈ rest ↔ e ∈ (s.line x).queue ∧ e ≠ d := fun e => by
      rw [isQueue, List.mem_cons]
      constructor
      · exact fun inRest => ⟨.inr inRest, fun same => out (same ▸ inRest)⟩
      · exact fun ⟨inQueue, other⟩ => inQueue.resolve_left other
    unfold State.serve
    dsimp only
    split
    · exact (h.takesOff queued others grounded).quietWork (State.quietWork_setSeq _ x _)
    · exact ih _ ((h.leaves queued others).quietWork (State.quietWork_postLine _ x _ _ _)) (by simp)
        distinct (by simpa using grounded)

theorem State.ViewsMatch.slotWork {s : State} {x : LineId} (h : s.ViewsMatch)
    (distinct : (s.line x).queue.Nodup) (grounded : (s.line x).inFlight = none) (i : Fin 128) :
    (s.slotWork x i).ViewsMatch := by
  unfold State.slotWork
  dsimp only
  split
  case h_1 | h_2 => exact h
  case h_3 =>
    split
    · exact h.quietWork (s.quietWork_setSeq x _)
    · exact h
  case h_4 => exact h.quietWork (s.quietWork_postLine x _ _ _)
  case h_5 => exact s.serve_viewsMatch x _ _ h rfl distinct grounded
  case h_6 => exact h.quietWork (s.quietWork_setSeq x _)

theorem State.ViewsMatch.beginSlot {s : State} {x : LineId} (h : s.ViewsMatch)
    (distinct : (s.line x).queue.Nodup) (grounded : (s.line x).inFlight = none) (n : Nat) :
    (s.beginSlot x n).ViewsMatch := by
  have begun := h.quietWork (s.quietWork_setLine x { (s.line x).setOrigin n with hushOk := false }
    (by rfl) (by rfl) (by rfl))
  unfold State.beginSlot
  dsimp only
  split
  · exact begun
  · split
    · exact begun.slotWork (by simpa [LineController.setOrigin] using distinct)
        (by simpa [LineController.setOrigin] using grounded) _
    · exact begun

theorem State.ViewsMatch.eventWork {x : LineId} {s t : State} (h : s.ViewsMatch)
    (coherent : (s.line x).Coherent) (work : State.EventWork x s t) : t.ViewsMatch := by
  cases work with
  | quiet work => exact h.quietWork work
  | frameEnd before stays after =>
    exact ((h.quietWork before).endFrame (stays coherent) _ _).quietWork after
  | slotStart settled before start =>
    have idle := coherent.idle_of_settled settled
    exact start ▸ (h.quietWork before).beginSlot (before.requests ▸ coherent.queue.2.1)
      (before.inFlight.trans (coherent.inFlight_none idle)) _

/-! ## Requests that come and go by command -/

theorem State.flushViews_adhoc (s : State) (queue : List (Fin 64)) (d : Fin 64) :
    ((s.flushViews queue).desc d).adhoc = if d ∈ queue then .none else (s.desc d).adhoc := by
  induction queue generalizing s with
  | nil => rfl
  | cons e rest ih =>
    rw [State.flushViews, ih, State.setAdhoc_desc]
    by_cases first : e = d
    · simp [first]
    · simp [first, Ne.symm first]

/-- A line reset takes every request of the line with it: the one in flight with its frame, the queue
by the flush (R101, R119). -/
theorem State.ViewsMatch.resetLine {s : State} (h : s.ViewsMatch) {x : LineId}
    (coherent : (s.line x).Coherent) : (s.resetLine x).ViewsMatch := by
  have ended := h.endFrame coherent .cancelled []
  obtain ⟨stays, idle⟩ := State.endFrame_coherent coherent .cancelled []
  have grounded := stays.inFlight_none idle
  refine ended.withdraw ((s.endFrame x .cancelled []).line x).queue (by simp [State.resetLine])
    (by simp [State.resetLine, State.flushViews_adhoc]) (fun y d => ?_) (fun y d => ?_) <;>
    simp only [State.resetLine, State.setEvents_line, State.setLine_line, State.mapNodes_line,
      State.flushViews_line] <;>
    split
  · next same => simp [same, LineController.resetFields]
  · next other =>
    refine ⟨fun queued => ⟨queued, fun own => other ?_⟩, And.left⟩
    exact ((ended.queued y d).mp queued).2.symm.trans ((ended.queued x d).mp own).2
  · next same => simp [same, LineController.resetFields, grounded]
  · exact ⟨fun flight => ⟨flight, ended.not_queued flight x⟩, And.left⟩

/-- What else ENQUEUE has checked when it accepts: the descriptor is in use on the line (R111). -/
theorem State.enqueueRefusal_none_config {s : State} {x : LineId} {d : Fin 64}
    (passes : s.enqueueRefusal x d = none) :
    (s.desc d).config.inUse = true ∧ (s.desc d).config.line = x := by
  simp only [State.enqueueRefusal, ite_eq_iff, reduceCtorEq, and_false, false_or] at passes
  obtain ⟨inUse, line, _⟩ := passes
  exact ⟨by simpa using inUse, by simpa using line⟩

theorem State.ViewsMatch.enqueued {s : State} (h : s.ViewsMatch) {x : LineId} {d : Fin 64}
    (passes : s.enqueueRefusal x d = none) : (s.enqueued x d).ViewsMatch := by
  obtain ⟨inUse, line⟩ := State.enqueueRefusal_none_config passes
  obtain ⟨unqueued, grounded, _⟩ := State.enqueueRefusal_none passes
  have free : (s.desc d).adhoc = .none := by
    cases view : (s.desc d).adhoc with
    | none => rfl
    | queued => exact absurd ((h.queued x d).mpr ⟨view, line⟩) unqueued
    | inFlight => exact absurd ((h.inFlight x d).mpr ⟨view, line⟩) grounded
  refine h.enters (v := .queued) free line inUse (by simp [State.enqueued]) (fun e => ?_)
    (fun y e => ?_) (fun y e => ?_)
  · simp only [State.enqueued, State.setAdhoc_desc, State.setLine_desc, eq_comm (a := e)]
    split <;> rfl
  · simp only [State.enqueued, State.setAdhoc_line, State.setLine_line]
    split
    · next same => simp [same]
    · next other => simp [Ne.symm other]
  · simp only [State.enqueued, State.setAdhoc_line, State.setLine_line]
    split
    · next same => simp [same]
    · simp

theorem State.ViewsMatch.cancelled {s : State} (h : s.ViewsMatch) {x : LineId} {d : Fin 64}
    (coherent : (s.line x).Coherent) (queued : d ∈ (s.line x).queue) :
    (s.cancelled x d).ViewsMatch :=
  h.leaves queued fun e => by rw [coherent.queue.2.1.mem_erase_iff, and_comm]

/-! ## Tables -/

/-- A descriptor is written that keeps its ad-hoc state and, while it has one, its line and its use. -/
theorem State.ViewsMatch.setDesc {s : State} (h : s.ViewsMatch) (d : Fin 64) {v : Descriptor}
    (view : v.adhoc = (s.desc d).adhoc)
    (held : v.adhoc ≠ .none → v.config = (s.desc d).config) : (s.setDesc d v).ViewsMatch := by
  have same : ∀ e, ((s.setDesc d v).desc e).adhoc = (s.desc e).adhoc ∧
      ((s.desc e).adhoc ≠ .none → ((s.setDesc d v).desc e).config = (s.desc e).config) := by
    intro e
    rw [State.setDesc_desc]
    split
    · next own => subst own; exact ⟨view, fun some => held (view ▸ some)⟩
    · exact ⟨rfl, fun _ => rfl⟩
  refine ⟨fun x e => ?_, fun x e => ?_, fun e => ?_⟩
  · rw [State.setDesc_line, h.queued, (same e).1]
    exact and_congr_right fun queued => by rw [(same e).2 (by simp [queued])]
  · rw [State.setDesc_line, h.inFlight, (same e).1]
    exact and_congr_right fun flight => by rw [(same e).2 (by simp [flight])]
  · rw [(same e).1]
    exact fun some => (same e).2 some ▸ h.inUse e some

/-- A commit keeps the configuration of a descriptor that a request holds, and an erase is refused
for it (R47, R49); no other table is part of a view. -/
theorem State.ViewsMatch.tableWrite {s t : State} (h : s.ViewsMatch) (write : s.TableWrite t) :
    t.ViewsMatch := by
  cases write with
  | refused same => exact same ▸ h
  | @commitDescriptor d w passes written =>
    obtain ⟨-, -, -, lock⟩ := State.descriptorRefusal_eq_none.mp passes
    have kept := State.lockedDifference_eq_none.mp lock
    exact written ▸ h.setDesc d rfl fun held =>
      (kept ((s.descriptorLocked_iff d).mpr (.inr held))).symm
  | @eraseDescriptor d free written =>
    have view : (s.desc d).adhoc = .none := by
      by_contra held
      simp [(s.descriptorLocked_iff d).mpr (.inr held)] at free
    exact written ▸ h.setDesc d view.symm fun held => absurd rfl held
  | directory _ _ written | slot _ _ written | node _ _ written =>
    exact written ▸ h.stand (fun _ => rfl) (fun _ => rfl) (by simp) (by simp)
  | @settings x _ _ _ written => exact written ▸ h.setLine x (by rfl) (by rfl)

theorem State.ViewsMatch.takeFlags {s : State} (h : s.ViewsMatch) (table : TableId) (i : Nat) :
    (s.takeFlags table i).ViewsMatch := by
  cases table with
  | descriptor => exact h.setDesc _ rfl fun _ => rfl
  | _ => exact h

/-! ## The step -/

theorem State.ViewsMatch.row {s t : State} (h : s.ViewsMatch) (lines : s.LinesCoherent)
    (work : s.RowWork t) : t.ViewsMatch := by
  cases work with
  | powerOn reset =>
    subst reset
    exact (State.reset.adhocViews_iff.mp State.reset_adhocViews).2.of_sameTables
      ⟨rfl, rfl, rfl, rfl, rfl, rfl⟩
  | event work same => exact (h.eventWork (lines _) work).of_sameTables same
  | lineReset same => exact (h.resetLine (lines _)).of_sameTables same
  | enqueue passes same => exact (h.enqueued passes).of_sameTables same
  | cancel queued same => exact (h.cancelled (lines _) queued).of_sameTables same
  | openTake same => exact (h.takeFlags _ _).of_sameTables same
  | commit same => exact (h.tableWrite s.commitPort_tableWrite).of_sameTables same
  | erase same => exact (h.tableWrite (s.eraseEntry_tableWrite _ _)).of_sameTables same

/-- Settles O59: beside the lines, which O58 keeps coherent, a view changes only with its request: at
ENQUEUE, CANCEL, OPEN service, the end of an ad-hoc frame and the flush of a line reset. -/
theorem everyStepKeepsTheAdhocViews : Obligations.EveryStepKeepsTheAdhocViews := by
  intro s t h ends
  obtain ⟨lines, views⟩ := s.adhocViews_iff.mp h
  refine t.adhocViews_iff.mpr ⟨lines.step ends, ?_⟩
  obtain ⟨u, lineA, lineB⟩ | ⟨u, same, work⟩ := step_cases ends
  · exact (views.quietWork lineA).quietWork lineB
  · exact (views.of_sameTables same).row (lines.of_line_eq same.line) work

end Sys2Proof.Machine
end

-- ==== Proofs: closures ====
section
/-! The closure of a schedule as its follow-on chain (R64): one induction along the chain, and what the
closure depends on. -/

namespace Sys2Proof.Machine

/-! ## The chain -/

/-- A list of schedules holds the follow-on of each of its members. -/
def FollowOnClosed (directory : Vector DirectoryEntry 8) (chain : List (Fin 8)) : Prop :=
  ∀ a ∈ chain, ∀ j, directory[a].followOn = some j → j ∈ chain

/-- The schedules reached so far, and `k` behind them, are a chain of follow-ons without repetition, and the
follow-on of each schedule before `k` has been reached. -/
structure ChainTo (directory : Vector DirectoryEntry 8) (seen : List (Fin 8)) (k : Fin 8) : Prop where
  nodup   : (seen ++ [k]).Nodup
  follows : (seen ++ [k]).IsChain fun a b => directory[a].followOn = some b
  reached : ∀ a ∈ seen, ∀ j, directory[a].followOn = some j → j ∈ seen ++ [k]

theorem ChainTo.start (directory : Vector DirectoryEntry 8) (k : Fin 8) : ChainTo directory [] k where
  nodup := List.nodup_singleton k
  follows := .singleton k
  reached := nofun

/-- A chain goes on to a follow-on that has not been reached. -/
theorem ChainTo.next {directory : Vector DirectoryEntry 8} {seen : List (Fin 8)} {k j : Fin 8}
    (h : ChainTo directory seen k) (follow : directory[k].followOn = some j)
    (new : j ∉ seen ++ [k]) : ChainTo directory (seen ++ [k]) j where
  nodup := (List.nodup_append_comm.mp (List.nodup_cons.mpr ⟨new, h.nodup⟩))
  follows := h.follows.append (.singleton j) (by simpa using follow)
  reached a before i isNext := by
    rcases List.mem_append.mp before with earlier | last
    · exact List.mem_append_left _ (h.reached a earlier i isNext)
    · obtain rfl := List.mem_singleton.mp last
      obtain rfl : j = i := Option.some_inj.mp (follow.symm.trans isNext)
      simp

/-- A chain whose last follow-on is none or already reached is closed. -/
theorem ChainTo.closed {directory : Vector DirectoryEntry 8} {seen : List (Fin 8)} {k : Fin 8}
    (h : ChainTo directory seen k)
    (last : ∀ j, directory[k].followOn = some j → j ∈ seen ++ [k]) :
    FollowOnClosed directory (seen ++ [k]) := by
  intro a among j follow
  rcases List.mem_append.mp among with before | here
  · exact h.reached a before j follow
  · obtain rfl := List.mem_singleton.mp here
    exact last j follow

/-! ## The closure -/

theorem closureFrom_stop {directory : Vector DirectoryEntry 8} (fuel : Nat) {seen : List (Fin 8)}
    {k : Fin 8} (last : ∀ j, directory[k].followOn = some j → j ∈ seen ++ [k]) :
    closureFrom directory (fuel + 1) seen k = seen ++ [k] := by
  unfold closureFrom
  split
  · rfl
  · next j follow => exact if_pos (last j follow)

theorem closureFrom_next {directory : Vector DirectoryEntry 8} (fuel : Nat) {seen : List (Fin 8)}
    {k j : Fin 8} (follow : directory[k].followOn = some j) (new : j ∉ seen ++ [k]) :
    closureFrom directory (fuel + 1) seen k = closureFrom directory fuel (seen ++ [k]) j := by
  simp only [closureFrom, follow, if_neg new]

/-- The chain stops at `k`, or goes on to a follow-on that has not been reached. -/
theorem followOn_cases (directory : Vector DirectoryEntry 8) (seen : List (Fin 8)) (k : Fin 8) :
    (∀ j, directory[k].followOn = some j → j ∈ seen ++ [k]) ∨
      ∃ j, directory[k].followOn = some j ∧ j ∉ seen ++ [k] := by
  by_cases stops : ∀ j, directory[k].followOn = some j → j ∈ seen ++ [k]
  · exact .inl stops
  · exact .inr (by simpa using stops)

theorem closureFrom_keeps_seen (directory : Vector DirectoryEntry 8) (fuel : Nat)
    (seen : List (Fin 8)) (k : Fin 8) :
    ∃ rest, closureFrom directory fuel seen k = seen ++ rest := by
  induction fuel generalizing seen k with
  | zero => exact ⟨[], (List.append_nil seen).symm⟩
  | succ fuel ih =>
    obtain last | ⟨j, follow, new⟩ := followOn_cases directory seen k
    · exact ⟨[k], closureFrom_stop fuel last⟩
    · obtain ⟨rest, whole⟩ := ih (seen ++ [k]) j
      exact ⟨k :: rest, by rw [closureFrom_next fuel follow new, whole]; simp⟩

theorem closureFrom_begins (directory : Vector DirectoryEntry 8) (fuel : Nat) (seen : List (Fin 8))
    (k : Fin 8) : ∃ rest, closureFrom directory (fuel + 1) seen k = seen ++ k :: rest := by
  obtain last | ⟨j, follow, new⟩ := followOn_cases directory seen k
  · exact ⟨[], closureFrom_stop fuel last⟩
  · obtain ⟨rest, whole⟩ := closureFrom_keeps_seen directory fuel (seen ++ [k]) j
    exact ⟨rest, by rw [closureFrom_next fuel follow new, whole]; simp⟩

/-- The chain that `closureFrom` ends with has no repetition, and it is closed, since eight steps exhaust
the eight schedules. -/
theorem ChainTo.closureFrom {directory : Vector DirectoryEntry 8} (fuel : Nat) {seen : List (Fin 8)}
    {k : Fin 8} (h : ChainTo directory seen k) (enough : 8 ≤ fuel + seen.length) :
    let chain := closureFrom directory fuel seen k
    chain.Nodup ∧ (chain.IsChain fun a b => directory[a].followOn = some b) ∧
      FollowOnClosed directory chain := by
  induction fuel generalizing seen k with
  | zero =>
    have room := h.nodup.length_le_card
    simp at room
    omega
  | succ fuel ih =>
    obtain last | ⟨j, follow, new⟩ := followOn_cases directory seen k
    · rw [closureFrom_stop fuel last]
      exact ⟨h.nodup, h.follows, h.closed last⟩
    · rw [closureFrom_next fuel follow new]
      exact ih (h.next follow new) (by simp; omega)

/-- Whatever is closed under follow-ons and holds what a chain begins with holds all of it. -/
theorem closureFrom_subset {directory : Vector DirectoryEntry 8} {chain : List (Fin 8)}
    (closed : FollowOnClosed directory chain) (fuel : Nat) {seen : List (Fin 8)} {k : Fin 8}
    (start : seen ++ [k] ⊆ chain) : closureFrom directory fuel seen k ⊆ chain := by
  induction fuel generalizing seen k with
  | zero => exact List.Subset.trans (List.subset_append_left _ _) start
  | succ fuel ih =>
    obtain last | ⟨j, follow, new⟩ := followOn_cases directory seen k
    · rwa [closureFrom_stop fuel last]
    · rw [closureFrom_next fuel follow new]
      have among : j ∈ chain := closed k (start (by simp)) j follow
      exact ih (List.append_subset.mpr ⟨start, by simpa using among⟩)

/-- The chain depends on the directory entries of its members alone. -/
theorem closureFrom_congr {directory directory' : Vector DirectoryEntry 8} (fuel : Nat)
    {seen : List (Fin 8)} {k : Fin 8}
    (same : ∀ j ∈ closureFrom directory fuel seen k, directory'[j] = directory[j]) :
    closureFrom directory' fuel seen k = closureFrom directory fuel seen k := by
  induction fuel generalizing seen k with
  | zero => rfl
  | succ fuel ih =>
    have own : directory'[k] = directory[k] := by
      obtain ⟨rest, whole⟩ := closureFrom_begins directory fuel seen k
      exact same k (by simp [whole])
    obtain last | ⟨j, follow, new⟩ := followOn_cases directory seen k
    · rw [closureFrom_stop fuel last, closureFrom_stop fuel (own ▸ last)]
    · rw [closureFrom_next fuel follow new] at same ⊢
      rw [closureFrom_next fuel (own ▸ follow) new, ih same]

theorem State.closure_nodup (s : State) (k : Fin 8) : (s.closure k).Nodup :=
  ((ChainTo.start s.directory k).closureFrom 8 (by simp)).1

theorem State.closure_follows (s : State) (k : Fin 8) :
    (s.closure k).IsChain fun a b => (s.dir a).followOn = some b :=
  ((ChainTo.start s.directory k).closureFrom 8 (by simp)).2.1

theorem State.closure_closed (s : State) (k : Fin 8) : FollowOnClosed s.directory (s.closure k) :=
  ((ChainTo.start s.directory k).closureFrom 8 (by simp)).2.2

theorem State.closure_begins (s : State) (k : Fin 8) : ∃ rest, s.closure k = k :: rest :=
  closureFrom_begins s.directory 7 [] k

theorem State.mem_closure_self (s : State) (k : Fin 8) : k ∈ s.closure k := by
  obtain ⟨rest, whole⟩ := s.closure_begins k
  simp [whole]

/-- The closure of a member lies inside the closure (R64). -/
theorem State.closure_subset {s : State} {k j : Fin 8} (among : j ∈ s.closure k) :
    s.closure j ⊆ s.closure k :=
  closureFrom_subset (s.closure_closed k) 8 (by simpa using among)

theorem State.closure_congr {s t : State} {k : Fin 8}
    (same : ∀ j ∈ s.closure k, t.dir j = s.dir j) : t.closure k = s.closure k :=
  closureFrom_congr 8 same

/-- Settles O51: the induction along the chain gives its order, that nothing comes twice and that it is
closed under follow-ons. -/
theorem closureIsTheFollowOnChain : Obligations.ClosureIsTheFollowOnChain := by
  intro s k
  refine ⟨?_, s.closure_nodup k, ?_, fun front a b back whole => ?_, fun front a whole j follow => ?_,
    fun j among i reached => State.closure_subset among reached⟩
  · obtain ⟨rest, whole⟩ := s.closure_begins k
    rw [whole, List.head?_cons]
  · simpa using (s.closure_nodup k).length_le_card
  · have follows := s.closure_follows k
    rw [whole, List.isChain_append_cons_cons] at follows
    exact follows.2.1
  · exact s.closure_closed k a (by simp [whole]) j follow

end Sys2Proof.Machine
end

-- ==== Proofs: validation ====
section
/-! Validation of a schedule (R65 to R67): when a slot, a schedule and a closure pass, and the DETAIL of the
first failure. -/

namespace Sys2Proof.Machine

theorem fits_iff (st : LineSettings) (kind : FrameKind) (length slotLength : Nat) :
    fits st kind length slotLength = true ↔ maxFrameTime st kind length + 4 ≤ slotLength :=
  decide_eq_true_iff

theorem DirectoryEntry.find?_range (e : DirectoryEntry) (p : Fin 128 → Bool) :
    e.range.find? p = (List.finRange 128).find? (fun i => e.covers i && p i) :=
  List.find?_filter.trans (by simp only [Bool.decide_and, Bool.decide_eq_true])

/-- A schedule passes for a line: in use, and every slot of its range passes (R65). -/
def State.SchedulePasses (s : State) (x : LineId) (k : Fin 8) : Prop :=
  (s.dir k).inUse = true ∧ ∀ i, (s.dir k).covers i = true → s.slotPasses x i = true

theorem State.scheduleFailure_eq_none {s : State} {x : LineId} {k : Fin 8} :
    s.scheduleFailure x k = none ↔ s.SchedulePasses x k := by
  unfold State.scheduleFailure State.SchedulePasses
  split
  · next inUse => simp [inUse, DirectoryEntry.find?_range]
  · next unused => simp [unused]

theorem State.scheduleFailure_unused {s : State} (x : LineId) {k : Fin 8}
    (unused : (s.dir k).inUse = false) :
    s.scheduleFailure x k = some (BitVec.ofNat 8 (0x80 + k.val)) := if_neg (by simp [unused])

/-- The first failing slot of a schedule in use gives the DETAIL. -/
theorem State.scheduleFailure_slot {s : State} {x : LineId} {k : Fin 8} {i : Fin 128}
    (inUse : (s.dir k).inUse = true) (covers : (s.dir k).covers i = true)
    (fails : s.slotPasses x i = false)
    (first : ∀ j, j < i → (s.dir k).covers j = true → s.slotPasses x j = true) :
    s.scheduleFailure x k = some (BitVec.ofNat 8 i.val) := by
  have found : (s.dir k).range.find? (fun i => !s.slotPasses x i) = some i := by
    rw [DirectoryEntry.find?_range, find?_finRange_eq_some]
    exact ⟨by simp [covers, fails], fun j below => by simpa using first j below⟩
  rw [State.scheduleFailure, if_pos inUse, found, Option.map_some]

/-- Validation passes exactly where every schedule of the closure does (R65). -/
theorem State.validationFailure_eq_none {s : State} {x : LineId} {k : Fin 8} :
    s.validationFailure x k = none ↔ ∀ j ∈ s.closure k, s.SchedulePasses x j := by
  simp only [State.validationFailure, List.findSome?_eq_none_iff, State.scheduleFailure_eq_none]

/-- The first failing schedule in chain order gives the DETAIL (R65). -/
theorem State.validationFailure_first {s : State} {x : LineId} {k j : Fin 8}
    {front back : List (Fin 8)} {detail : Byte} (chain : s.closure k = front ++ j :: back)
    (pass : ∀ j' ∈ front, s.SchedulePasses x j') (fails : s.scheduleFailure x j = some detail) :
    s.validationFailure x k = some detail := by
  have none : front.findSome? (s.scheduleFailure x) = none :=
    List.findSome?_eq_none_iff.mpr fun j' before => State.scheduleFailure_eq_none.mpr (pass j' before)
  rw [State.validationFailure, chain, List.findSome?_append, none, Option.none_or,
    List.findSome?_cons_of_isSome (by simp [fails]), fails]

/-- Settles O52: a closure passes with its schedules and a schedule with its slots, and at each level the
first failure in order is the one reported. -/
theorem validation : Obligations.Validation := by
  intro s x k slotOk scheduleOk
  have slots : ∀ i, s.slotPasses x i = true ↔ slotOk i := by
    intro i
    simp only [State.slotPasses, slotOk]
    cases (s.slot i).kind <;> simp [fits_iff, and_assoc]
  have schedules : ∀ j, s.SchedulePasses x j ↔ scheduleOk j := fun j => by
    simp only [State.SchedulePasses, scheduleOk, slots]
  refine ⟨by simp only [State.validationFailure_eq_none, schedules], fun front j back chain pass => ?_⟩
  have detail := fun d => State.validationFailure_first (detail := d) chain
    fun j' before => (schedules j').mpr (pass j' before)
  refine ⟨fun unused => detail _ (State.scheduleFailure_unused x unused),
    fun i inUse covers fails first => detail _ (State.scheduleFailure_slot inUse covers ?_ ?_)⟩
  · simpa using mt (slots i).mp fails
  · exact fun i' below inside => (slots i').mpr (first i' below inside)

end Sys2Proof.Machine
end

-- ==== Proofs: entries of schedules in use ====
section
/-! What validation depends on (R65 to R67), and that a COMMIT or an ERASE leaves it as it is for every
schedule in use (R42, R69 to R73, R77). -/

namespace Sys2Proof.Machine

/-! ## What validation reads -/

/-- What validation of schedule `k` for a line reads: the directory entries and the slots of the closure, the
configuration of the descriptors those slots name, and the line's settings. -/
structure State.SameForSchedule (x : LineId) (k : Fin 8) (s t : State) : Prop where
  settings  : (t.line x).settings = (s.line x).settings
  directory : ∀ j ∈ s.closure k, t.dir j = s.dir j
  slots     : ∀ j ∈ s.closure k, ∀ i, (s.dir j).covers i = true → t.slot i = s.slot i
  configs   : ∀ j ∈ s.closure k, ∀ i, (s.dir j).covers i = true → (s.slot i).kind = .regular →
    (t.desc (s.slot i).descriptor).config = (s.desc (s.slot i).descriptor).config

theorem State.slotPasses_congr {s t : State} {x : LineId} {i : Fin 128}
    (settings : (t.line x).settings = (s.line x).settings) (slot : t.slot i = s.slot i)
    (config : (s.slot i).kind = .regular →
      (t.desc (s.slot i).descriptor).config = (s.desc (s.slot i).descriptor).config) :
    t.slotPasses x i = s.slotPasses x i := by
  unfold State.slotPasses
  rw [slot, settings]
  cases kind : (s.slot i).kind with
  | regular => rw [config kind]
  | _ => rfl

theorem State.SameForSchedule.schedulePasses {s t : State} {x : LineId} {k j : Fin 8}
    (h : State.SameForSchedule x k s t) (among : j ∈ s.closure k) :
    t.SchedulePasses x j ↔ s.SchedulePasses x j := by
  unfold State.SchedulePasses
  rw [h.directory j among]
  refine and_congr_right fun _ => forall₂_congr fun i covers => ?_
  rw [State.slotPasses_congr h.settings (h.slots j among i covers) (h.configs j among i covers)]

theorem State.SameForSchedule.validationFailure {s t : State} {x : LineId} {k : Fin 8}
    (h : State.SameForSchedule x k s t) :
    t.validationFailure x k = none ↔ s.validationFailure x k = none := by
  rw [State.validationFailure_eq_none, State.validationFailure_eq_none,
    State.closure_congr h.directory]
  exact forall₂_congr fun j among => h.schedulePasses among

theorem State.SameConfigs.sameForSchedule {s t : State} (h : s.SameConfigs t) (x : LineId)
    (k : Fin 8) : State.SameForSchedule x k s t where
  settings := h.settings x
  directory j _ := h.directory j
  slots _ _ i _ := h.slots i
  configs _ _ _ _ _ := h.descs _

/-! ## Entries in use -/

/-- Everything that locks protect is as it was: the directory entries and slots of the locked closure, the
configuration of the descriptors those slots name, and the settings of a line that is not OFF. -/
structure State.InUseKept (s t : State) : Prop where
  settings  : ∀ x, (s.line x).lineState ≠ .off → (t.line x).settings = (s.line x).settings
  directory : ∀ k ∈ s.lockedClosure, t.dir k = s.dir k
  slots     : ∀ k ∈ s.lockedClosure, ∀ i, (s.dir k).covers i = true → t.slot i = s.slot i
  configs   : ∀ d, s.namedInClosure d = true → (t.desc d).config = (s.desc d).config

theorem State.SameConfigs.inUseKept {s t : State} (h : s.SameConfigs t) : s.InUseKept t where
  settings x _ := h.settings x
  directory k _ := h.directory k
  slots _ _ i _ := h.slots i
  configs d _ := h.descs d

theorem State.InUseKept.of_sameTables {s t u : State} (h : s.InUseKept t) (same : t.SameTables u) :
    s.InUseKept u where
  settings x on := (same.line x).symm ▸ h.settings x on
  directory k locked := (same.dir k).trans (h.directory k locked)
  slots k locked i covers := (same.slot i).trans (h.slots k locked i covers)
  configs d named := (same.desc d).symm ▸ h.configs d named

/-- A REGULAR slot of the locked closure locks the descriptor it names (R42). -/
theorem State.namedInClosure_of_covers {s : State} {k : Fin 8} {i : Fin 128}
    (locked : k ∈ s.lockedClosure) (covers : (s.dir k).covers i = true)
    (regular : (s.slot i).kind = .regular) : s.namedInClosure (s.slot i).descriptor = true := by
  obtain ⟨first, last⟩ := ((s.dir k).covers_iff i).mp covers
  exact (s.namedInClosure_iff _).mpr ⟨k, locked, i, first, last, regular, rfl⟩

/-- The closure of an active or pending schedule is locked (R69). -/
theorem State.closure_locked {s : State} {x : LineId} {k : Fin 8}
    (used : (s.line x).active = some k ∨ (s.line x).pending = some k) :
    s.closure k ⊆ s.lockedClosure := fun j among =>
  (s.mem_lockedClosure j).mpr ⟨x, (s.mem_lineClosure x j).mpr ⟨k, used, among⟩⟩

theorem State.InUseKept.sameForSchedule {s t : State} (h : s.InUseKept t) {x : LineId} {k : Fin 8}
    (on : (s.line x).lineState ≠ .off)
    (used : (s.line x).active = some k ∨ (s.line x).pending = some k) :
    State.SameForSchedule x k s t where
  settings := h.settings x on
  directory j among := h.directory j (State.closure_locked used among)
  slots j among := h.slots j (State.closure_locked used among)
  configs _ among _ covers regular :=
    h.configs _ (State.namedInClosure_of_covers (State.closure_locked used among) covers regular)

/-! ## What a commit or an erase leaves -/

theorem State.inUseKept_setDesc {s : State} {d : Fin 64} {v : Descriptor}
    (free : s.namedInClosure d = true → v.config = (s.desc d).config) :
    s.InUseKept (s.setDesc d v) where
  settings x _ := by simp
  directory _ _ := rfl
  slots _ _ _ _ := rfl
  configs e named := by
    rw [State.setDesc_desc]
    split
    · next same => exact same ▸ free (same ▸ named)
    · rfl

theorem State.inUseKept_setDir {s : State} {k : Fin 8} (v : DirectoryEntry)
    (free : s.directoryLocked k = false) : s.InUseKept (s.setDir k v) where
  settings x _ := by simp
  directory j locked := by
    rw [State.setDir_dir, if_neg]
    rintro rfl
    simp [(s.directoryLocked_iff k).mpr locked] at free
  slots _ _ _ _ := rfl
  configs _ _ := rfl

theorem State.inUseKept_setSlot {s : State} {i : Fin 128} (v : Slot)
    (free : s.slotLocked i = false) : s.InUseKept (s.setSlot i v) where
  settings x _ := by simp
  directory _ _ := rfl
  slots k locked j covers := by
    rw [State.setSlot_slot, if_neg]
    rintro rfl
    simp [(s.slotLocked_iff i).mpr ⟨k, locked, covers⟩] at free
  configs _ _ := rfl

theorem State.inUseKept_settings {s : State} {x : LineId} (st : LineSettings)
    (off : (s.line x).lineState = .off) :
    s.InUseKept (s.setLine x { s.line x with settings := st }) where
  settings y on := by
    rw [State.setLine_line, if_neg]
    rintro rfl
    exact on off
  directory k _ := by simp
  slots _ _ i _ := by simp
  configs d _ := by simp

/-- What a commit or an erase writes is locked by no schedule in use, or keeps the configuration (R42, R47). -/
theorem State.TableWrite.inUseKept {s t : State} (write : s.TableWrite t) : s.InUseKept t := by
  cases write with
  | refused same =>
    exact State.SameConfigs.inUseKept (same ▸ (State.SameTables.refl s).sameConfigs)
  | commitDescriptor passes written =>
    obtain ⟨-, -, -, kept⟩ := State.descriptorRefusal_eq_none.mp passes
    subst written
    exact State.inUseKept_setDesc fun named =>
      (State.lockedDifference_eq_none.mp kept ((s.descriptorLocked_iff _).mpr (.inl named))).symm
  | eraseDescriptor free written =>
    subst written
    exact State.inUseKept_setDesc fun named => by
      simp [(s.descriptorLocked_iff _).mpr (.inl named)] at free
  | directory free _ written => exact written ▸ State.inUseKept_setDir _ free
  | slot free _ written => exact written ▸ State.inUseKept_setSlot _ free
  | node _ _ written =>
    subst written
    exact ⟨fun x _ => by simp, fun _ _ => rfl, fun _ _ _ _ => rfl, fun _ _ => rfl⟩
  | settings off _ written => exact written ▸ State.inUseKept_settings _ off

end Sys2Proof.Machine
end

-- ==== Proofs: a line's place in its schedules ====
section
/-! What each state change of the runner makes of a line's state, schedules and slot index (R79, R81, R82),
and that it keeps every schedule in use valid. -/

namespace Sys2Proof.Machine

/-! ## Places -/

/-- Where a line stands in its schedules (R79, R81, R82). -/
structure SchedulePlace where
  lineState : LineState
  active    : Option (Fin 8)
  pending   : Option (Fin 8)
  slotIndex : Nat

def LineController.place (l : LineController) : SchedulePlace :=
  { lineState := l.lineState, active := l.active, pending := l.pending, slotIndex := l.slotIndex }

/-- The place of a line that is OFF (R84). -/
def SchedulePlace.off : SchedulePlace :=
  { lineState := .off, active := none, pending := none, slotIndex := 0 }

@[simp] theorem LineController.reach_place (l : LineController) (n : Nat) :
    (l.reach n).place = l.place := rfl

@[simp] theorem LineController.countPulse_place (l : LineController) :
    l.countPulse.place = l.place := by
  simp [LineController.place]

@[simp] theorem LineController.setSeq_place (l : LineController) (q : Sequencer) :
    { l with seq := q }.place = l.place := rfl

@[simp] theorem LineController.setMonitor_place (l : LineController) (m : Monitor) :
    { l with monitor := m }.place = l.place := rfl

theorem LineController.wentOff_place (l : LineController) : l.wentOff.place = .off := rfl

/-- What `SchedulesValid` asks of one line, of its place alone. -/
structure State.Admits (s : State) (x : LineId) (p : SchedulePlace) : Prop where
  off   : p.lineState = .off → p.active = none ∧ p.pending = none
  valid : ∀ k, p.active = some k ∨ p.pending = some k → s.validationFailure x k = none
  index : ∀ k, p.active = some k → p.slotIndex < (s.dir k).slotCount

theorem State.SchedulesValid.admits {s : State} (h : s.SchedulesValid) (x : LineId) :
    s.Admits x (s.line x).place := ⟨h.off x, h.valid x, h.index x⟩

theorem State.admits_off (s : State) (x : LineId) : s.Admits x .off where
  off _ := ⟨rfl, rfl⟩
  valid _ used := used.elim nofun nofun
  index _ active := nomatch active

theorem State.SameConfigs.admits {s t : State} (h : s.SameConfigs t) {x : LineId}
    {p : SchedulePlace} (own : s.Admits x p) : t.Admits x p where
  off := own.off
  valid k used := (h.sameForSchedule x k).validationFailure.mpr (own.valid k used)
  index k active := (h.directory k).symm ▸ own.index k active

/-- The line goes to another state, not OFF, or back in its schedule. -/
theorem State.Admits.moved {s : State} {x : LineId} {p : SchedulePlace} (h : s.Admits x p)
    (st : LineState) (on : st ≠ .off) {position : Nat} (back : position ≤ p.slotIndex) :
    s.Admits x { p with lineState := st, slotIndex := position } where
  off goes := absurd goes on
  valid := h.valid
  index k active := back.trans_lt (h.index k active)

theorem State.SchedulesValid.of_sameConfigs {s t : State} (h : s.SchedulesValid)
    (same : s.SameConfigs t) (own : ∀ x, s.Admits x (t.line x).place) : t.SchedulesValid where
  counts k := (same.directory k).symm ▸ h.counts k
  off x := (own x).off
  valid x := (same.admits (own x)).valid
  index x := (same.admits (own x)).index

/-- The work of a line keeps the schedules in use valid where its new place is admitted. -/
theorem State.SchedulesValid.lineWork {s t : State} {x : LineId} (h : s.SchedulesValid)
    (work : State.LineWork x s t) (own : s.Admits x (t.line x).place) : t.SchedulesValid := by
  refine h.of_sameConfigs work.sameConfigs fun y => ?_
  by_cases same : y = x
  · exact same ▸ own
  · exact (work.other y same).symm ▸ h.admits y

/-- The work of a line that keeps its place. -/
theorem State.SchedulesValid.stays {s t : State} {x : LineId} (h : s.SchedulesValid)
    (work : State.LineWork x s t) (same : (t.line x).place = (s.line x).place) : t.SchedulesValid :=
  h.lineWork work (same.symm ▸ h.admits x)

/-! ## Frames and slots -/

@[simp] theorem State.endFrame_place (s : State) (x : LineId) (o : FrameOutcome)
    (reply : List Byte) : ((s.endFrame x o reply).line x).place = (s.line x).place := by
  rw [State.endFrame_line]
  rfl

theorem State.serve_place (x : LineId) (slotLength : Nat) (queue : List (Fin 64)) (s : State) :
    ((s.serve x slotLength queue).line x).place = (s.line x).place := by
  induction queue generalizing s with
  | nil => simp [State.serve, LineController.place]
  | cons d rest ih =>
    unfold State.serve
    dsimp only
    split
    · simp [State.startFrame, LineController.place]
    · rw [ih]
      simp [LineController.place]

theorem State.slotWork_place (s : State) (x : LineId) (i : Fin 128) :
    ((s.slotWork x i).line x).place = (s.line x).place := by
  unfold State.slotWork
  dsimp only
  split
  case h_1 | h_2 => rfl
  case h_3 => split <;> simp [State.startFrame]
  case h_4 => simp
  case h_5 => exact s.serve_place x _ _
  case h_6 => simp [State.startHush]

@[simp] theorem State.beginSlot_place (s : State) (x : LineId) (t : Nat) :
    ((s.beginSlot x t).line x).place = (s.line x).place := by
  have begun : { (s.line x).setOrigin t with hushOk := false }.place = (s.line x).place := rfl
  unfold State.beginSlot
  dsimp only
  split
  · simpa using begun
  · split
    · rw [State.slotWork_place]
      simpa using begun
    · simpa using begun

theorem State.SchedulesValid.endFrame {s : State} (h : s.SchedulesValid) (x : LineId)
    (o : FrameOutcome) (reply : List Byte) : (s.endFrame x o reply).SchedulesValid :=
  h.stays (s.lineWork_endFrame x o reply) (s.endFrame_place x o reply)

theorem State.SchedulesValid.beginSlot {s : State} (h : s.SchedulesValid) (x : LineId) (t : Nat) :
    (s.beginSlot x t).SchedulesValid :=
  h.stays (s.lineWork_beginSlot x t) (s.beginSlot_place x t)

theorem State.SchedulesValid.reach {s : State} (h : s.SchedulesValid) (x : LineId) (n : Nat) :
    (s.reach x n).SchedulesValid := h.stays (s.lineWork_reach x n) (by simp)

theorem State.SchedulesValid.setMonitor {s : State} (h : s.SchedulesValid) (x : LineId)
    (m : Monitor) : (s.setMonitor x m).SchedulesValid :=
  h.stays (s.lineWork_setMonitor x m) (by simp)

/-- A controller is replaced at the same settings by one whose place is admitted. -/
theorem State.SchedulesValid.setLine {s : State} (h : s.SchedulesValid) (x : LineId)
    {l : LineController} (settings : l.settings = (s.line x).settings) (own : s.Admits x l.place) :
    (s.setLine x l).SchedulesValid :=
  h.lineWork (s.lineWork_setLine x l settings) (by rwa [State.setLine_line_same])

theorem State.SchedulesValid.countCycle {s : State} (h : s.SchedulesValid) (x : LineId) :
    (s.countCycle x).SchedulesValid := h.setLine x rfl (h.admits x)

/-! ## State changes -/

/-- A controller is replaced and its change is posted: the form of the runner's state changes. -/
theorem State.SchedulesValid.changeLine {s : State} (h : s.SchedulesValid) (x : LineId)
    (index : Byte) (cause : Cause) {l : LineController} (settings : l.settings = (s.line x).settings)
    (own : s.Admits x l.place) : ((s.setLine x l).postLineChange x index cause).SchedulesValid :=
  (h.setLine x settings own).stays (State.lineWork_postLineChange _ x x _ _) (by simp)

theorem State.SchedulesValid.goOff {s : State} (h : s.SchedulesValid) (x : LineId)
    (cause : Cause) : (s.goOff x cause).SchedulesValid :=
  h.changeLine x _ _ rfl (s.admits_off x)

theorem State.SchedulesValid.goAsleep {s : State} (h : s.SchedulesValid) (x : LineId) :
    (s.goAsleep x).SchedulesValid :=
  h.changeLine x _ _ rfl ((h.admits x).moved .asleep nofun (Nat.zero_le _))

theorem State.SchedulesValid.enterFault {s : State} (h : s.SchedulesValid) (x : LineId) :
    (s.enterFault x).SchedulesValid :=
  h.changeLine x _ _ rfl ((h.admits x).moved .fault nofun (Nat.zero_le _))

theorem State.SchedulesValid.goWaking {s : State} (h : s.SchedulesValid) (x : LineId)
    (m : Monitor) (cause : Cause) : (s.goWaking x m cause).SchedulesValid :=
  h.changeLine x _ _ rfl ((h.admits x).moved .waking nofun le_rfl)

theorem State.SchedulesValid.goRunning {s : State} (h : s.SchedulesValid) (x : LineId)
    (cause : Cause) : (s.goRunning x cause).SchedulesValid :=
  h.changeLine x _ _ rfl ((h.admits x).moved .running nofun le_rfl)

/-! ## Cycle boundaries -/

/-- A schedule of the closure of a valid schedule is valid (R64, R65). -/
theorem State.validationFailure_of_mem_closure {s : State} {x : LineId} {k j : Fin 8}
    (valid : s.validationFailure x k = none) (among : j ∈ s.closure k) :
    s.validationFailure x j = none := by
  rw [State.validationFailure_eq_none] at valid ⊢
  exact fun i reached => valid i (State.closure_subset among reached)

theorem State.followOn_mem_closure {s : State} {k j : Fin 8}
    (follow : (s.dir k).followOn = some j) : j ∈ s.closure k :=
  s.closure_closed k k (s.mem_closure_self k) j follow

/-- The schedule that a boundary takes was pending, or follows the active one (R94). -/
theorem State.scheduleTaken_cases {s : State} {x : LineId} {followOns : Bool} {j : Fin 8}
    (taken : s.scheduleTaken x followOns = some j) :
    (s.line x).pending = some j ∨
      ∃ k, (s.line x).active = some k ∧ (s.dir k).followOn = some j := by
  rw [State.scheduleTaken, Option.or_eq_some_iff] at taken
  refine taken.imp id fun ⟨_, next⟩ => ?_
  split at next
  · exact Option.bind_eq_some_iff.mp next
  · nomatch next

/-- Slot 0 of the schedule that a boundary leaves active is admitted (R94). -/
theorem State.SchedulesValid.admits_taken {s : State} (h : s.SchedulesValid) (x : LineId)
    (followOns : Bool) {st : LineState} (on : st ≠ .off) :
    s.Admits x
      { lineState := st, active := (s.scheduleTaken x followOns).or (s.line x).active,
        pending := none, slotIndex := 0 } where
  off goes := absurd goes on
  valid j used := by
    obtain taken | ⟨_, active⟩ := Option.or_eq_some_iff.mp (used.resolve_right nofun)
    · obtain pending | ⟨k, active, follow⟩ := State.scheduleTaken_cases taken
      · exact h.valid x j (.inr pending)
      · exact State.validationFailure_of_mem_closure (h.valid x k (.inl active))
          (State.followOn_mem_closure follow)
    · exact h.valid x j (.inl active)
  index k _ := h.counts k

/-- A boundary keeps the schedules in use valid: OFF, HELD or slot 0 of the schedule it leaves active. -/
theorem State.SchedulesValid.boundary {s : State} (h : s.SchedulesValid) (x : LineId) (t : Nat)
    (followOns : Bool) (cause : Cause) : (s.boundary x t followOns cause).SchedulesValid := by
  refine h.lineWork (s.lineWork_boundary x t followOns cause) ?_
  have effect := s.boundary_effect x t followOns cause
  unfold State.BoundaryEffect at effect
  dsimp only at effect
  have slot0 := fun st on => h.admits_taken x followOns (st := st) on
  split at effect
  · rw [effect, State.posted_line, State.setLine_line_same]
    exact s.admits_off x
  · split at effect
    · rw [effect, State.posted_line, State.setLine_line_same]
      exact slot0 .held nofun
    · split at effect
      · next running =>
        rw [effect, State.beginSlot_place, State.posted_line, State.setLine_line_same]
        exact slot0 (s.line x).lineState (by simp [running])
      · rw [effect, State.beginSlot_place, State.posted_line, State.setLine_line_same]
        exact slot0 .running nofun

theorem State.SchedulesValid.release {s : State} (h : s.SchedulesValid) (x : LineId) :
    (s.release x).SchedulesValid := by
  unfold State.release
  dsimp only
  split
  · exact h.boundary x _ _ _
  · exact (h.goRunning x _).beginSlot x _

theorem State.SchedulesValid.holdChanged {s : State} (h : s.SchedulesValid) (x : LineId)
    (before : Bool) : (s.holdChanged x before).SchedulesValid := by
  unfold State.holdChanged
  split
  · exact h.release x
  · exact h

/-- The slot end of a line with active schedule `k` that runs (R88). -/
theorem State.SchedulesValid.endSlot {s : State} (h : s.SchedulesValid) (x : LineId) {k : Fin 8}
    (active : (s.line x).active = some k) (on : (s.line x).lineState ≠ .off) (t : Nat) :
    (s.endSlot x k t).SchedulesValid := by
  unfold State.endSlot
  dsimp only
  split
  · exact h.goAsleep x
  · split
    · exact (h.countCycle x).boundary x _ _ _
    · next more =>
      have next' : ∀ st, st ≠ .off → s.Admits x
          { (s.line x).place with lineState := st, slotIndex := (s.line x).slotIndex + 1 } :=
        fun st on =>
          { off := fun goes => absurd goes on
            valid := h.valid x
            index := fun j isActive => by
              obtain rfl : k = j := Option.some_inj.mp (active.symm.trans isActive)
              exact not_le.mp more }
      split
      · exact h.changeLine x _ _ rfl (next' .held nofun)
      · exact (h.setLine x (l := { s.line x with slotIndex := (s.line x).slotIndex + 1 }) rfl
          (next' _ on)).beginSlot x t

end Sys2Proof.Machine
end

-- ==== Proofs: schedules in use at every step ====
section
/-! Every step keeps the schedules in use valid and, a power-on reset apart, their entries as they were
(R69, R70). -/

namespace Sys2Proof.Machine

/-! ## Kinds of rows -/

/-- What a row of the opcode table other than POWER_ON_RESET does to the schedule store and to the schedules
in use: every configuration stands and every schedule in use stays valid, or an entry is written. -/
inductive State.StoreWork (s t : State) : Prop
  | settled (same : s.SameConfigs t) (valid : s.SchedulesValid → t.SchedulesValid)
  | written {u : State} (write : s.TableWrite u) (same : u.SameTables t)

theorem State.SchedulesValid.of_sameTables {s t : State} (h : s.SchedulesValid)
    (same : s.SameTables t) : t.SchedulesValid :=
  h.of_sameConfigs same.sameConfigs fun x => (same.line x).symm ▸ h.admits x

theorem State.SameTables.storeWork {s t : State} (same : s.SameTables t) : s.StoreWork t :=
  .settled same.sameConfigs fun h => h.of_sameTables same

theorem State.StoreWork.refl (s : State) : s.StoreWork s := (State.SameTables.refl s).storeWork

/-- The work of a line that keeps the schedules in use valid. -/
theorem State.LineWork.storeWork {x : LineId} {s t : State} (work : State.LineWork x s t)
    (valid : s.SchedulesValid → t.SchedulesValid) : s.StoreWork t := .settled work.sameConfigs valid

/-- The work of a line that keeps its place in its schedules. -/
theorem State.LineWork.inPlace {x : LineId} {s t : State} (work : State.LineWork x s t)
    (same : (t.line x).place = (s.line x).place) : s.StoreWork t :=
  work.storeWork fun h => h.stays work same

theorem State.SameTables.trans {s t u : State} (h : s.SameTables t) (k : t.SameTables u) :
    s.SameTables u where
  lineA := k.lineA.trans h.lineA
  lineB := k.lineB.trans h.lineB
  descriptors := k.descriptors.trans h.descriptors
  directory := k.directory.trans h.directory
  slots := k.slots.trans h.slots
  nodes := k.nodes.trans h.nodes

theorem State.StoreWork.then_same {s t u : State} (h : s.StoreWork t) (same : t.SameTables u) :
    s.StoreWork u := by
  cases h with
  | settled configs valid =>
    exact .settled (configs.trans same.sameConfigs) fun before => (valid before).of_sameTables same
  | written write tables => exact .written write (tables.trans same)

theorem State.StoreWork.complete {s t : State} (h : s.StoreWork t) (a : Answer) :
    s.StoreWork (t.complete a) := h.then_same (t.sameTables_complete a)

theorem State.StoreWork.completeFree {s t : State} (h : s.StoreWork t) (r : Result) :
    s.StoreWork (t.completeFree r) := h.then_same (t.sameTables_completeFree r)

theorem State.StoreWork.inUseKept {s t : State} (h : s.StoreWork t) : s.InUseKept t := by
  cases h with
  | settled same _ => exact same.inUseKept
  | written write same => exact write.inUseKept.of_sameTables same

/-! ## What a write makes of the schedules in use -/

theorem State.TableWrite.place {s t : State} (write : s.TableWrite t) (x : LineId) :
    (t.line x).place = (s.line x).place := by
  cases write with
  | refused same => rw [same]
  | settings _ _ written =>
    rw [written, State.setLine_line]
    split
    · next same => rw [same]; rfl
    · rfl
  | commitDescriptor _ written | eraseDescriptor _ written | directory _ _ written
  | slot _ _ written | node _ _ written => simp [written]

theorem State.TableWrite.counts {s t : State} (write : s.TableWrite t)
    (before : ∀ k, 1 ≤ (s.dir k).slotCount) (k : Fin 8) : 1 ≤ (t.dir k).slotCount := by
  cases write with
  | refused same => exact same ▸ before k
  | directory _ range written =>
    rw [written, State.setDir_dir]
    split
    · exact range.2.1.1
    · exact before k
  | commitDescriptor _ written | eraseDescriptor _ written | slot _ _ written | node _ _ written
  | settings _ _ written => simpa [written] using before k

/-- A commit or an erase leaves the schedules in use valid, since it leaves what validation reads of them
(R70). -/
theorem State.TableWrite.schedulesValid {s t : State} (write : s.TableWrite t)
    (h : s.SchedulesValid) : t.SchedulesValid := by
  have own : ∀ x, t.Admits x (s.line x).place := fun x =>
    { off := h.off x
      valid := fun k used => by
        have on : (s.line x).lineState ≠ .off := fun off => by
          obtain ⟨active, pending⟩ := h.off x off
          exact used.elim (by simp [LineController.place, active])
            (by simp [LineController.place, pending])
        exact (write.inUseKept.sameForSchedule on used).validationFailure.mpr (h.valid x k used)
      index := fun k active => by
        have locked := State.closure_locked (.inl active) (s.mem_closure_self k)
        exact (write.inUseKept.directory k locked).symm ▸ h.index x k active }
  have places : ∀ x, t.Admits x (t.line x).place := fun x => (write.place x).symm ▸ own x
  exact ⟨write.counts h.counts, fun x => (places x).off, fun x => (places x).valid,
    fun x => (places x).index⟩

theorem State.StoreWork.schedulesValid {s t : State} (work : s.StoreWork t)
    (h : s.SchedulesValid) : t.SchedulesValid := by
  cases work with
  | settled _ valid => exact valid h
  | written write same => exact (write.schedulesValid h).of_sameTables same

/-! ## Events in place -/

section InPlace

variable (s : State) (x : LineId)

/-- A frame goes on at an instant of its line. -/
theorem State.reach_setSeq_place (n : Nat) (q : Sequencer) :
    (((s.reach x n).setSeq x q).line x).place = (s.line x).place := by
  rw [State.setSeq_line_same, LineController.setSeq_place, State.reach_line_same,
    LineController.reach_place]

/-- A frame ends at an instant of its line. -/
theorem State.reach_endFrame_place (n : Nat) (o : FrameOutcome) (reply : List Byte) :
    (((s.reach x n).endFrame x o reply).line x).place = (s.line x).place := by
  rw [State.endFrame_place, State.reach_line_same, LineController.reach_place]

theorem State.alertEnds_place : ((s.alertEnds x).line x).place = (s.line x).place := by
  unfold State.alertEnds
  dsimp only
  split
  · exact s.reach_setSeq_place x _ _
  · rfl

theorem State.markEnds_place : ((s.markEnds x).line x).place = (s.line x).place := by
  unfold State.markEnds
  dsimp only
  split
  · exact s.reach_setSeq_place x _ _
  · rfl

theorem State.controlEnds_place : ((s.controlEnds x).line x).place = (s.line x).place := by
  have sent := fun n q => s.reach_setSeq_place x n q
  unfold State.controlEnds
  dsimp only
  split
  · split
    · rw [State.postLine_line, State.stepCounter_line, sent]
    · rw [State.stepCounter_line, sent]
  · rfl

theorem State.compareBit_place (bit : Nat) (samples : Samples) :
    ((s.compareBit x bit samples).line x).place = (s.line x).place := by
  unfold State.compareBit
  dsimp only
  split
  · split
    · rw [State.reach_line_same, LineController.reach_place]
    · exact s.reach_endFrame_place x _ _ _
  · rfl

theorem State.judgeStart_place (edge deadline : Nat) (samples : Samples) (late : FrameOutcome) :
    ((s.judgeStart x edge deadline samples late).line x).place = (s.line x).place := by
  unfold State.judgeStart
  dsimp only
  split
  · exact s.reach_setSeq_place x _ _
  · split
    · exact s.reach_endFrame_place x _ _ _
    · exact s.reach_setSeq_place x _ _

theorem State.startBit_place (edge : Nat) (samples : Samples) :
    ((s.startBit x edge samples).line x).place = (s.line x).place := by
  unfold State.startBit
  dsimp only
  split
  · split <;> exact s.judgeStart_place x _ _ _ _
  · rfl

theorem State.character_place (bits : BitVec 9) :
    ((s.character x bits).line x).place = (s.line x).place := by
  unfold State.character
  dsimp only
  split
  · split
    · exact s.reach_setSeq_place x _ _
    · exact s.reach_endFrame_place x _ _ _
  · rfl

theorem State.replySpaceEnds_place :
    ((s.replySpaceEnds x).line x).place = (s.line x).place := by
  unfold State.replySpaceEnds
  dsimp only
  split
  · exact s.reach_endFrame_place x _ _ _
  · rfl

theorem State.replyGapEnds_place : ((s.replyGapEnds x).line x).place = (s.line x).place := by
  unfold State.replyGapEnds
  dsimp only
  split
  · exact s.reach_endFrame_place x _ _ _
  · rfl

theorem State.compareCheck_place : ((s.compareCheck x).line x).place = (s.line x).place := by
  unfold State.compareCheck
  dsimp only
  split
  · split <;> exact s.reach_endFrame_place x _ _ _
  · rfl

theorem State.windowEnds_place : ((s.windowEnds x).line x).place = (s.line x).place := by
  unfold State.windowEnds
  dsimp only
  split
  · exact s.reach_endFrame_place x _ _ _
  · rfl

theorem State.pushSpaceEnds_place : ((s.pushSpaceEnds x).line x).place = (s.line x).place := by
  unfold State.pushSpaceEnds
  dsimp only
  split
  · exact s.reach_setSeq_place x _ _
  · rfl

theorem State.pushEnds_place : ((s.pushEnds x).line x).place = (s.line x).place := by
  unfold State.pushEnds
  dsimp only
  split
  · exact s.reach_endFrame_place x _ _ _
  · rfl

theorem State.judgeBit_place (samples : Samples) :
    ((s.judgeBit x samples).line x).place = (s.line x).place := by
  unfold State.judgeBit
  dsimp only
  split <;> simp [LineController.place]

theorem State.samplePin_place (reading : PinLevel) :
    ((s.samplePin x reading).line x).place = (s.line x).place := by
  unfold State.samplePin
  dsimp only
  split <;> simp [LineController.place]

theorem State.pulseEnds_place : ((s.pulseEnds x).line x).place = (s.line x).place := by
  unfold State.pulseEnds
  dsimp only
  split <;> simp [LineController.place]

end InPlace

/-! ## Events that change the place -/

theorem State.SchedulesValid.slotEnds {s : State} (h : s.SchedulesValid) (x : LineId) :
    (s.slotEnds x).SchedulesValid := by
  unfold State.slotEnds
  dsimp only
  split
  · next runs =>
    have on : (s.line x).lineState ≠ .off := by rcases runs.1 with st | st <;> simp [st]
    split
    · next k i active _ =>
      exact (h.reach x _).endSlot x (k := k) (by simpa using active) (by simpa using on) _
    · exact h
  · exact h

theorem State.SchedulesValid.setHoldFlag {s : State} (h : s.SchedulesValid) (x : LineId)
    (v : Bool) : (s.setHoldFlag x v).SchedulesValid :=
  (h.setLine x (l := { s.line x with holdFlag := v }) rfl (h.admits x)).holdChanged x _

theorem State.SchedulesValid.levelChanges {s : State} (h : s.SchedulesValid) (x : LineId) :
    (s.levelChanges x).SchedulesValid := by
  unfold State.levelChanges
  dsimp only
  split
  · refine State.SchedulesValid.holdChanged ?_ x _
    exact h.setLine x rfl (h.admits x)
  · exact h

theorem State.SchedulesValid.reportStuck {s : State} (h : s.SchedulesValid) (x : LineId) :
    (s.reportStuck x).SchedulesValid := by
  unfold State.reportStuck
  dsimp only
  split
  · split
    · exact h.setMonitor x _
    · exact ((h.setMonitor x _).endFrame x _ _).enterFault x
  · exact h

theorem State.SchedulesValid.wakeRemotely {s : State} (h : s.SchedulesValid) (x : LineId) :
    (s.wakeRemotely x).SchedulesValid := by
  unfold State.wakeRemotely
  dsimp only
  split
  · exact h.goWaking x _ _
  · exact h

theorem State.SchedulesValid.recoveryEnds {s : State} (h : s.SchedulesValid) (x : LineId) :
    (s.recoveryEnds x).SchedulesValid := by
  unfold State.recoveryEnds
  dsimp only
  split
  · exact (((h.reach x _).setMonitor x _).countCycle x).boundary x _ _ _
  · exact h

/-! ## Line commands -/

/-- START makes a validated schedule active at slot 0 (R96). -/
theorem State.SchedulesValid.startLine {s : State} (h : s.SchedulesValid) (x : LineId) {k : Fin 8}
    (off : (s.line x).lineState = .off) (valid : s.validationFailure x k = none) :
    (s.startLine x k).SchedulesValid := by
  refine h.lineWork (s.lineWork_startLine x k) ?_
  have place : ((s.startLine x k).line x).place =
      { lineState := .running, active := some k, pending := none, slotIndex := 0 } := by
    rw [State.startLine, State.beginSlot_place, State.goRunning_eq, State.takeSchedule_eq]
    simp [LineController.started, LineController.place, (h.off x off).2]
  rw [place]
  exact
    { off := nofun
      valid := fun j used => Option.some_inj.mp (used.resolve_right nofun) ▸ valid
      index := fun j _ => h.counts j }

theorem State.storeWork_takeStart (s : State) (x : LineId) (k : Fin 8) :
    s.StoreWork (s.takeStart x k) := by
  unfold State.takeStart
  split
  · next off =>
    split
    · exact (State.StoreWork.refl s).complete _
    · next valid =>
      exact ((s.lineWork_startLine x k).storeWork fun h => h.startLine x off valid).complete _
  · exact (State.StoreWork.refl s).complete _

theorem State.storeWork_takeStopEnd (s : State) (x : LineId) : s.StoreWork (s.takeStopEnd x) := by
  unfold State.takeStopEnd
  split
  case h_1 | h_3 => exact (State.StoreWork.refl s).completeFree _
  case h_2 =>
    refine State.StoreWork.completeFree (State.LineWork.storeWork
      ((s.lineWork_setLine x _ (by rfl)).trans (State.lineWork_postLineChange _ x x _ _))
      fun h => ?_) _
    exact h.changeLine x _ _ rfl ((h.admits x).moved .draining nofun le_rfl)
  case h_4 =>
    exact ((s.lineWork_setLine x _ (by rfl)).inPlace (by simp [LineController.place])).completeFree _
  case h_5 | h_6 | h_7 =>
    exact ((s.lineWork_goOff x _).storeWork fun h => h.goOff x _).completeFree _

theorem State.storeWork_takeStopNow (s : State) (x : LineId) : s.StoreWork (s.takeStopNow x) := by
  unfold State.takeStopNow
  split
  · exact (State.StoreWork.refl s).complete _
  · exact (((s.lineWork_endFrame x _ _).trans (State.lineWork_goOff _ x _)).storeWork
      fun h => (h.endFrame x _ _).goOff x _).complete _

/-- SWITCH makes a validated schedule pending on a line that is not OFF (R99). -/
theorem State.SchedulesValid.switchTo {s : State} (h : s.SchedulesValid) (x : LineId) {k : Fin 8}
    (on : (s.line x).lineState ≠ .off) (valid : s.validationFailure x k = none) :
    (s.setLine x { s.line x with pending := some k }).SchedulesValid :=
  h.setLine x rfl
    { off := fun off => absurd off on
      valid := fun j used => used.elim (fun active => h.valid x j (.inl active))
        fun pending => Option.some_inj.mp pending ▸ valid
      index := h.index x }

theorem State.storeWork_takeSwitch (s : State) (x : LineId) (k : Fin 8) :
    s.StoreWork (s.takeSwitch x k) := by
  unfold State.takeSwitch
  split
  · next takes =>
    have on : (s.line x).lineState ≠ .off := by
      rintro off
      simp [off, LineState.takesSwitch] at takes
    split
    · exact (State.StoreWork.refl s).complete _
    · next valid =>
      exact ((s.lineWork_setLine x _ (by rfl)).storeWork fun h => h.switchTo x on valid).complete _
  · exact (State.StoreWork.refl s).complete _

/-- A command that wakes a line does so on a new origin (R127, R133). -/
theorem State.storeWork_goWaking (s : State) (x : LineId) (t : Nat) (m : Monitor) (cause : Cause) :
    s.StoreWork ((s.setLine x ((s.line x).setOrigin t)).goWaking x m cause) :=
  ((s.lineWork_setLine x _ (by rfl)).trans (State.lineWork_goWaking _ x m cause)).storeWork
    fun h => (h.setLine x (l := (s.line x).setOrigin t) rfl (h.admits x)).goWaking x m cause

theorem State.storeWork_takeWake (s : State) (x : LineId) : s.StoreWork (s.takeWake x) := by
  unfold State.takeWake
  dsimp only
  split
  · exact (s.storeWork_goWaking x _ _ _).complete _
  · exact (State.StoreWork.refl s).complete _

theorem State.storeWork_takeClearFault (s : State) (x : LineId) :
    s.StoreWork (s.takeClearFault x) := by
  unfold State.takeClearFault
  dsimp only
  split
  · split
    · exact (State.StoreWork.refl s).complete _
    · exact (s.storeWork_goWaking x _ _ _).complete _
  · exact (State.StoreWork.refl s).complete _

/-- A line reset leaves its line OFF and the other line in its place (R101). -/
theorem State.storeWork_resetLine (s : State) (x : LineId) : s.StoreWork (s.resetLine x) := by
  refine .settled (s.resetLine_sameConfigs x) fun h =>
    h.of_sameConfigs (s.resetLine_sameConfigs x) fun y => ?_
  simp only [State.resetLine, State.setEvents_line, State.setLine_line, State.mapNodes_line,
    State.flushViews_line]
  split
  · exact s.admits_off y
  · next other =>
    rw [(s.lineWork_endFrame x .cancelled []).other y other]
    exact h.admits y

theorem State.storeWork_takeSupply (s : State) (x : LineId) (d : Fin 64) :
    s.StoreWork (s.takeSupply x d) := by
  have refused := fun a => (State.StoreWork.refl s).complete a
  unfold State.takeSupply
  dsimp only
  split
  · split
    · split
      · exact ((s.lineWork_setSeq x _).inPlace (by simp)).complete _
      · exact refused _
    · exact refused _
  · exact refused _

/-- A request that joins or leaves the queue leaves the line in its place (R111, R112). -/
theorem State.storeWork_setQueue (s : State) (x : LineId) (queue : List (Fin 64)) (d : Fin 64)
    (view : AdhocView) : s.StoreWork ((s.setLine x { s.line x with queue := queue }).setAdhoc d view) :=
  ((s.lineWork_setLine x _ (by rfl)).trans (State.lineWork_setAdhoc _ x d view)).inPlace
    (by simp [LineController.place])

theorem State.storeWork_takeEnqueue (s : State) (x : LineId) (d : Fin 64) :
    s.StoreWork (s.takeEnqueue x d) := by
  unfold State.takeEnqueue
  split
  · exact (State.StoreWork.refl s).complete _
  · exact (s.storeWork_setQueue x _ d _).complete _

theorem State.storeWork_takeCancel (s : State) (x : LineId) (d : Fin 64) :
    s.StoreWork (s.takeCancel x d) := by
  unfold State.takeCancel
  dsimp only
  split
  · exact (s.storeWork_setQueue x _ d _).complete _
  · exact (State.StoreWork.refl s).complete _

theorem State.storeWork_takeFlags (s : State) (table : TableId) (i : Nat) :
    s.StoreWork (s.takeFlags table i) := by
  cases table with
  | descriptor => exact (s.lineWork_setDesc .a _ _ (by rfl)).inPlace (by simp)
  | _ => exact .refl s

/-! ## The step -/

theorem State.storeWork_of_next {s t u : State}
    (ends : (.next u : Host.Outcome State Fault Refusal) = .next t) (work : s.StoreWork u) :
    s.StoreWork t := by
  cases ends
  exact work

/-- Every row of the opcode table but POWER_ON_RESET does one of the two kinds of work. -/
theorem exec_storeWork {c : Instr} {s t : State} (ends : exec c s = .next t)
    (other : c ≠ .powerOnReset) : s.StoreWork t := by
  cases c with
  | powerOnReset => exact absurd rfl other
  | start =>
    refine State.storeWork_of_next ends ?_
    split
    · exact s.storeWork_takeStart _ _
    · exact .refl s
  | stopEnd =>
    refine State.storeWork_of_next ends ?_
    split
    · exact s.storeWork_takeStopEnd _
    · exact .refl s
  | stopNow =>
    refine State.storeWork_of_next ends ?_
    split
    · exact s.storeWork_takeStopNow _
    · exact .refl s
  | switch =>
    refine State.storeWork_of_next ends ?_
    split
    · exact s.storeWork_takeSwitch _ _
    · exact .refl s
  | holdSet | holdClear =>
    refine State.storeWork_of_next ends ?_
    split
    · exact ((s.lineWork_setHoldFlag _ _).storeWork fun h => h.setHoldFlag _ _).complete _
    · exact .refl s
  | wake =>
    refine State.storeWork_of_next ends ?_
    split
    · exact s.storeWork_takeWake _
    · exact .refl s
  | clearFault =>
    refine State.storeWork_of_next ends ?_
    split
    · exact s.storeWork_takeClearFault _
    · exact .refl s
  | lineReset =>
    refine State.storeWork_of_next ends ?_
    split
    · exact (s.storeWork_resetLine _).complete _
    · exact .refl s
  | supply =>
    refine State.storeWork_of_next ends ?_
    split
    · exact s.storeWork_takeSupply _ _
    · exact .refl s
  | enqueue =>
    refine State.storeWork_of_next ends ?_
    split
    · exact s.storeWork_takeEnqueue _ _
    · exact .refl s
  | cancel =>
    refine State.storeWork_of_next ends ?_
    split
    · exact s.storeWork_takeCancel _ _
    · exact .refl s
  | openPeek =>
    refine State.storeWork_of_next ends ?_
    split
    · exact State.SameTables.storeWork ⟨rfl, rfl, rfl, rfl, rfl, rfl⟩
    · exact .refl s
  | openTake =>
    refine State.storeWork_of_next ends ?_
    split
    · exact (s.storeWork_takeFlags _ _).then_same (s.sameTables_openTake _ _ _)
    · exact .refl s
  | commit =>
    refine State.storeWork_of_next ends ?_
    split
    · exact .written s.commitPort_tableWrite (State.sameTables_complete _ _)
    · exact .refl s
  | erase =>
    refine State.storeWork_of_next ends ?_
    split
    · exact .written (s.eraseEntry_tableWrite _ _) (State.sameTables_complete _ _)
    · exact .refl s
  | pop value | intEnableWrite value | kindMaskWrite value =>
    exact State.storeWork_of_next ends
      (State.sameTables_busWrite (s.sameTables_setEvents _)).storeWork
  | portPointerWrite value =>
    exact State.storeWork_of_next ends
      (State.sameTables_busWrite (s.sameTables_writePointer value)).storeWork
  | portDataRead => exact State.storeWork_of_next ends s.sameTables_readPortData.storeWork
  | portDataWrite value =>
    exact State.storeWork_of_next ends
      (State.sameTables_busWrite (s.sameTables_writePortData value)).storeWork
  | portStateWrite value =>
    exact State.storeWork_of_next ends (State.sameTables_busWrite s.sameTables_closePort).storeWork
  | registerWrite address value =>
    exact State.storeWork_of_next ends
      (State.sameTables_busWrite (s.sameTables_writeRegister address value)).storeWork
  | cmdWrite value =>
    exact State.storeWork_of_next ends
      (State.sameTables_busWrite (s.sameTables_setHost _)).storeWork
  | resetnRelease =>
    exact State.storeWork_of_next ends
      (State.SameTables.storeWork ⟨rfl, rfl, rfl, rfl, rfl, rfl⟩)
  | postTaken path => exact State.storeWork_of_next ends (s.sameTables_setEvents _).storeWork
  | resetRecordsPosted x => exact State.storeWork_of_next ends (s.sameTables_setEvents _).storeWork
  | holdPinLevelChange x =>
    exact State.storeWork_of_next ends
      ((s.lineWork_levelChanges x).storeWork fun h => h.levelChanges x)
  | slotEnd x =>
    exact State.storeWork_of_next ends ((s.lineWork_slotEnds x).storeWork fun h => h.slotEnds x)
  | stuckLineReport x =>
    exact State.storeWork_of_next ends
      ((s.lineWork_reportStuck x).storeWork fun h => h.reportStuck x)
  | remoteWake x =>
    exact State.storeWork_of_next ends
      ((s.lineWork_wakeRemotely x).storeWork fun h => h.wakeRemotely x)
  | recoveryEnd x =>
    exact State.storeWork_of_next ends
      ((s.lineWork_recoveryEnds x).storeWork fun h => h.recoveryEnds x)
  | alertEnd x =>
    exact State.storeWork_of_next ends ((s.lineWork_alertEnds x).inPlace (s.alertEnds_place x))
  | markEnd x =>
    exact State.storeWork_of_next ends ((s.lineWork_markEnds x).inPlace (s.markEnds_place x))
  | controlEnd x =>
    exact State.storeWork_of_next ends ((s.lineWork_controlEnds x).inPlace (s.controlEnds_place x))
  | readback x bit samples =>
    exact State.storeWork_of_next ends
      ((s.lineWork_compareBit x bit samples).inPlace (s.compareBit_place x bit samples))
  | replyCharacter x first second third =>
    exact State.storeWork_of_next ends ((s.lineWork_character x _).inPlace (s.character_place x _))
  | replySpaceEnd x =>
    exact State.storeWork_of_next ends
      ((s.lineWork_replySpaceEnds x).inPlace (s.replySpaceEnds_place x))
  | replyGapEnd x =>
    exact State.storeWork_of_next ends
      ((s.lineWork_replyGapEnds x).inPlace (s.replyGapEnds_place x))
  | checkCompare x =>
    exact State.storeWork_of_next ends
      ((s.lineWork_compareCheck x).inPlace (s.compareCheck_place x))
  | supplyWindowEnd x =>
    exact State.storeWork_of_next ends ((s.lineWork_windowEnds x).inPlace (s.windowEnds_place x))
  | pushSpaceEnd x =>
    exact State.storeWork_of_next ends
      ((s.lineWork_pushSpaceEnds x).inPlace (s.pushSpaceEnds_place x))
  | pushEnd x =>
    exact State.storeWork_of_next ends ((s.lineWork_pushEnds x).inPlace (s.pushEnds_place x))
  | wakePulseEnd x =>
    exact State.storeWork_of_next ends ((s.lineWork_pulseEnds x).inPlace (s.pulseEnds_place x))
  | replyStartBit x edge samples =>
    exact State.storeWork_of_next ends
      ((s.lineWork_startBit x edge samples).inPlace (s.startBit_place x edge samples))
  | bitTimeJudged x samples =>
    exact State.storeWork_of_next ends
      ((s.lineWork_judgeBit x samples).inPlace (s.judgeBit_place x samples))
  | holdPinSample x reading =>
    exact State.storeWork_of_next ends
      ((s.lineWork_samplePin x reading).inPlace (s.samplePin_place x reading))

/-- One period of the clock keeps the place of both lines. -/
theorem State.SchedulesValid.tick {s : State} (h : s.SchedulesValid) :
    (tick s).SchedulesValid := by
  obtain ⟨u, lineA, lineB⟩ := tick_quietWork s
  refine h.of_sameConfigs (lineA.sameConfigs.trans lineB.sameConfigs) fun x => ?_
  have place : ((Machine.tick s).line x).place = (s.line x).place := by
    cases x <;> simp [Machine.tick] <;> rfl
  exact place.symm ▸ h.admits x

theorem State.SchedulesValid.powerOn (s : State) : s.powerOn.SchedulesValid :=
  State.reset_schedulesValid.of_sameTables ⟨rfl, rfl, rfl, rfl, rfl, rfl⟩

/-- Every row of the opcode table keeps the schedules in use valid. -/
theorem State.SchedulesValid.exec {s t : State} (h : s.SchedulesValid) {c : Instr}
    (ends : exec c s = .next t) : t.SchedulesValid := by
  by_cases reset : c = .powerOnReset
  · subst reset
    cases ends
    exact .powerOn s
  · exact (exec_storeWork ends reset).schedulesValid h

theorem State.SchedulesValid.step {s t : State} (h : s.SchedulesValid) (ends : step s = .next t) :
    t.SchedulesValid := by
  unfold Machine.step at ends
  split at ends
  · cases ends
    exact h.tick
  · next c rest _ =>
    have same : s.SameTables { s with pending := rest } := ⟨rfl, rfl, rfl, rfl, rfl, rfl⟩
    exact (h.of_sameTables same).exec ends

/-- Settles O53: a row leaves every configuration, or writes an entry that no schedule in use locks; and a
schedule comes into use only validated, or inside the closure of a valid one. -/
theorem schedulesInUseStayAsValidated : Obligations.SchedulesInUseStayAsValidated := by
  refine ⟨fun s t h ends => h.step ends, fun c s t ends other => ?_⟩
  have kept := (exec_storeWork ends other).inUseKept
  refine ⟨kept.settings, fun x k used => ?_⟩
  have locked : k ∈ s.lockedClosure := (s.mem_lockedClosure k).mpr ⟨x, used⟩
  exact ⟨kept.directory k locked, fun i covers => ⟨kept.slots k locked i covers, fun regular =>
    kept.configs _ (State.namedInClosure_of_covers locked covers regular)⟩⟩

end Sys2Proof.Machine
end

-- ==== Proofs: commits of the other tables ====
section
/-! COMMIT of directory entries, slots, nodes and line settings: the range checks and the fields of each
window (R58, R59, R71, R72, R76, R77, R136, R144, R176), and the checks in order. -/

namespace Sys2Proof.Machine

/-! ## Fields -/

theorem lineField_eq {v : Byte} (bit : v.toNat ≤ 1) :
    lineField v = if v.toNat = 0 then .a else .b := by
  rcases bit_cases bit with rfl | rfl <;> rfl

theorem boolField_eq (v : Byte) : boolField v = decide (v.toNat = 1) := by
  simp [boolField, ← BitVec.toNat_inj, beq_eq_decide]

theorem boolField_iff (v : Byte) : boolField v = true ↔ v.toNat = 1 := by
  rw [boolField_eq, decide_eq_true_iff]

theorem isBit_iff (v : Byte) : isBit v = true ↔ v.toNat ≤ 1 := decide_eq_true_iff

theorem inRange_iff (low high n : Nat) : inRange low high n = true ↔ low ≤ n ∧ n ≤ high :=
  decide_eq_true_iff

theorem slotKindField_eq_regular (v : Byte) : slotKindField v = .regular ↔ v.toNat = 1 := by
  unfold slotKindField
  simp only [← BitVec.toNat_inj]
  split
  · next one => simpa using one
  · next other =>
    refine iff_of_false ?_ other
    repeat' split
    all_goals nofun

/-- The kind of a slot by its code (R176). -/
theorem slotKindField_code {v : Byte} (small : v.toNat ≤ 5) :
    (v.toNat, slotKindField v) ∈ [(0, SlotKind.empty), (1, .regular), (2, .gap), (3, .mark),
      (4, .open), (5, .hush)] := by
  obtain ⟨n, rfl⟩ : ∃ n : Fin 6, v = BitVec.ofNat 8 n.val :=
    ⟨⟨v.toNat, by omega⟩, by simp⟩
  revert n
  decide

/-! ## The windows -/

section Windows

variable (w : Window)

/-- The range check of R71, field by field. -/
theorem directoryRange_firstFailure :
    let b := fun i => (byteAt w i).toNat
    FirstFailure
      [ (0x00, b 0 = 1), (0x01, b 1 ≤ 127), (0x02, (1 ≤ b 2 ∧ b 2 ≤ 128) ∧ b 1 + b 2 ≤ 128),
        (0x03, b 3 ≤ 7 ∨ b 3 = 255) ] (directoryRange w) := by
  refine firstFailure_firstFailing
    (.cons ⟨rfl, ?_⟩ (.cons ⟨rfl, ?_⟩ (.cons ⟨rfl, ?_⟩ (.cons ⟨rfl, ?_⟩ .nil)))) <;>
    simp [boolField_iff, inRange_iff, ← BitVec.toNat_inj]

theorem directoryFields_of_range (passes : directoryRange w = none) :
    let b := fun i => (byteAt w i).toNat
    directoryFields w =
      { inUse := true, firstSlot := b 1, slotCount := b 2,
        followOn := if h : b 3 < 8 then some ⟨b 3, h⟩ else none } := by
  have fields := (directoryRange_firstFailure w).1.mp passes
  simp only [List.forall_mem_cons] at fields
  obtain ⟨inUse, -⟩ := fields
  rw [directoryFields, (boolField_iff _).mpr inUse]
  rfl

/-- The range check of R72, field by field. -/
theorem slotRange_firstFailure :
    let b := fun i => (byteAt w i).toNat
    FirstFailure
      [ (0x00, b 0 ≤ 5), (0x01, 8 ≤ b 1 + 256 * b 2 ∧ b 1 + 256 * b 2 ≤ 4095),
        (0x03, b 3 ∈ [1, 2, 4, 8, 16]), (0x04, b 4 < b 3), (0x05, b 0 = 1 → b 5 ≤ 63) ]
      (slotRange w) := by
  refine firstFailure_firstFailing
    (.cons ⟨rfl, ?_⟩ (.cons ⟨rfl, ?_⟩ (.cons ⟨rfl, ?_⟩ (.cons ⟨rfl, ?_⟩ (.cons ⟨rfl, ?_⟩ .nil)))))
    <;> simp [inRange_iff, twoBytes, slotKindField_eq_regular, imp_iff_not_or]

theorem slotFields_of_range (passes : slotRange w = none) :
    let b := fun i => (byteAt w i).toNat
    (b 0, (slotFields w).kind) ∈ [(0, SlotKind.empty), (1, .regular), (2, .gap), (3, .mark),
        (4, .open), (5, .hush)] ∧
      (slotFields w).length = b 1 + 256 * b 2 ∧ (slotFields w).divisor = b 3 ∧
      (slotFields w).phase = b 4 ∧
      (slotFields w).descriptor.val = if b 0 = 1 then b 5 else 0 := by
  have fields := (slotRange_firstFailure w).1.mp passes
  simp only [List.forall_mem_cons] at fields
  obtain ⟨kind, -, -, -, descriptor, -⟩ := fields
  refine ⟨slotKindField_code kind, rfl, rfl, rfl, ?_⟩
  simp only [slotFields, slotKindField_eq_regular]
  split
  · next regular =>
    have named : (byteAt w 5).toNat < 64 := by
      have := descriptor regular
      omega
    simp [indexArg, named]
  · rfl

/-- The range check of R144, field by field. -/
theorem nodeRange_firstFailure :
    let b := fun i => (byteAt w i).toNat
    FirstFailure
      [ (0x00, b 0 = 1), (0x01, b 1 ≤ 1), (0x02, 1 ≤ b 2 ∧ b 2 ≤ 15), (0x03, 1 ≤ b 3 ∧ b 3 ≤ 31),
        (0x04, b 4 ∈ [1, 2, 4, 8, 16, 32, 64, 128]), (0x05, b 5 ≤ 1) ] (nodeRange w) := by
  refine firstFailure_firstFailing
    (.cons ⟨rfl, ?_⟩ (.cons ⟨rfl, ?_⟩ (.cons ⟨rfl, ?_⟩ (.cons ⟨rfl, ?_⟩ (.cons ⟨rfl, ?_⟩
      (.cons ⟨rfl, ?_⟩ .nil)))))) <;>
    simp [boolField_iff, isBit_iff, inRange_iff]

theorem nodeFields_of_range (passes : nodeRange w = none) :
    let b := fun i => (byteAt w i).toNat
    nodeFields w =
      { inUse := true, line := if b 1 = 0 then .a else .b, missThreshold := b 2,
        errorThreshold := b 3, probeDivisor := b 4, notify := decide (b 5 = 1) } := by
  have fields := (nodeRange_firstFailure w).1.mp passes
  simp only [List.forall_mem_cons] at fields
  obtain ⟨inUse, line, -⟩ := fields
  rw [nodeFields, (boolField_iff _).mpr inUse, lineField_eq line, boolField_eq]

/-- The range check of R76 and R77, field by field, and the supply window against the push space last. -/
theorem settingsRange_firstFailure :
    let b := fun i => (byteAt w i).toNat
    FirstFailure
      [ (0x00, 80 ≤ b 0 + 256 * b 1 ∧ b 0 + 256 * b 1 ≤ 1666), (0x02, 12 ≤ b 2 ∧ b 2 ≤ 20),
        (0x03, 2 ≤ b 3 ∧ b 3 ≤ 5), (0x04, 2 ≤ b 4 ∧ b 4 ≤ 15), (0x05, b 5 ≤ 7),
        (0x06, 1 ≤ b 6 ∧ b 6 ≤ 7), (0x07, b 7 ≤ 3), (0x08, 4 ≤ b 8), (0x09, 30 ≤ b 9),
        (0x0A, 4 ≤ b 10 ∧ b 10 ≤ 16), (0x0B, 2 ≤ b 11 ∧ b 11 ≤ 15), (0x0C, 16 ≤ b 12),
        (0x0D, b 13 ≤ 1), (0x0E, b 14 ≤ 1), (0x08, b 6 ≤ b 8) ] (settingsRange w) := by
  have byte : ∀ i, (byteAt w i).toNat ≤ 255 := fun i => Nat.le_of_lt_succ (byteAt w i).isLt
  refine firstFailure_firstFailing
    (.cons ⟨rfl, ?_⟩ (.cons ⟨rfl, ?_⟩ (.cons ⟨rfl, ?_⟩ (.cons ⟨rfl, ?_⟩ (.cons ⟨rfl, ?_⟩
      (.cons ⟨rfl, ?_⟩ (.cons ⟨rfl, ?_⟩ (.cons ⟨rfl, ?_⟩ (.cons ⟨rfl, ?_⟩ (.cons ⟨rfl, ?_⟩
        (.cons ⟨rfl, ?_⟩ (.cons ⟨rfl, ?_⟩ (.cons ⟨rfl, ?_⟩ (.cons ⟨rfl, ?_⟩
          (.cons ⟨rfl, ?_⟩ .nil))))))))))))))) <;>
    simp [isBit_iff, inRange_iff, twoBytes, byte]

theorem settingsFields_of_range (passes : settingsRange w = none) :
    let b := fun i => (byteAt w i).toNat
    settingsFields w =
      { divisor := b 0 + 256 * b 1, alert := b 2, mark := b 3, replySpace := b 4, replyGap := b 5,
        pushSpace := b 6, pushGap := b 7, supplyWindow := b 8, stuckLimit := b 9, wakePulse := b 10,
        wakeQualify := b 11, recovery := b 12, holdPoint := if b 13 = 0 then .slot else .cycle,
        holdPinEnable := decide (b 14 = 1) } := by
  have fields := (settingsRange_firstFailure w).1.mp passes
  simp only [List.forall_mem_cons] at fields
  obtain ⟨-, -, -, -, -, -, -, -, -, -, -, -, holdPoint, -⟩ := fields
  have point : (if byteAt w 13 = 0x01 then HoldPoint.cycle else .slot) =
      if (byteAt w 13).toNat = 0 then .slot else .cycle := by
    rcases bit_cases holdPoint with v | v <;> simp [v]
  rw [settingsFields, point, boolField_eq]
  rfl

end Windows

/-! ## The checks in order -/

section Checks

variable {s : State} {w : Window} {offset : Byte}

theorem State.commitDirectory_range {k : Fin 8} (fails : directoryRange w = some offset) :
    s.commitDirectory k w = (s, { result := .range, detail := offset }) := by
  simp only [State.commitDirectory, fails]

theorem State.commitDirectory_locked {k : Fin 8} (passes : directoryRange w = none)
    (locked : k ∈ s.lockedClosure) :
    s.commitDirectory k w = (s, { result := .inUse, detail := BitVec.ofNat 8 k.val }) := by
  simp only [State.commitDirectory, passes, if_pos ((s.directoryLocked_iff k).mpr locked)]

theorem State.commitDirectory_free {k : Fin 8} (passes : directoryRange w = none)
    (free : k ∉ s.lockedClosure) :
    s.commitDirectory k w = (s.setDir k (directoryFields w), .done) := by
  simp only [State.commitDirectory, passes, if_neg (mt (s.directoryLocked_iff k).mp free)]

theorem State.commitSlot_range {i : Fin 128} (fails : slotRange w = some offset) :
    s.commitSlot i w = (s, { result := .range, detail := offset }) := by
  simp only [State.commitSlot, fails]

/-- A locked slot is refused with the lowest schedule that holds it (R72). -/
theorem State.commitSlot_locked {i : Fin 128} {k : Fin 8} (passes : slotRange w = none)
    (locked : k ∈ s.lockedClosure) (covers : (s.dir k).covers i = true)
    (lowest : ∀ j ∈ s.lockedClosure, (s.dir j).covers i = true → k ≤ j) :
    s.commitSlot i w = (s, { result := .inUse, detail := BitVec.ofNat 8 k.val }) := by
  have isLocked := (s.slotLocked_iff i).mpr ⟨k, locked, covers⟩
  simp only [State.commitSlot, passes, isLocked, if_true, State.slotInUse,
    State.slotHolder_eq_some locked covers lowest, indexCode]

theorem State.commitSlot_free {i : Fin 128} (passes : slotRange w = none)
    (free : ∀ k ∈ s.lockedClosure, (s.dir k).covers i = false) :
    s.commitSlot i w = (s.setSlot i (slotFields w), .done) := by
  have isFree := (s.slotLocked_eq_false i).mpr free
  simp [State.commitSlot, passes, isFree]

theorem State.commitNode_range {n : Fin 32} (fails : nodeRange w = some offset) :
    s.commitNode n w = (s, { result := .range, detail := offset }) := by
  simp only [State.commitNode, fails]

/-- A node in use that would move to the other line is refused with its lowest user (R144). -/
theorem State.commitNode_used {n : Fin 32} {d : Fin 64} (passes : nodeRange w = none)
    (inUse : (s.node n).config.inUse = true)
    (moves : (nodeFields w).line ≠ (s.node n).config.line) (user : s.nodeUser n = some d) :
    s.commitNode n w = (s, { result := .inUse, detail := BitVec.ofNat 8 d.val }) := by
  simp [State.commitNode, passes, inUse, moves, user]

/-- The judgement of a committed node starts anew (R144). -/
theorem State.commitNode_free {n : Fin 32} (passes : nodeRange w = none)
    (free : ¬ ((s.node n).config.inUse = true ∧ (nodeFields w).line ≠ (s.node n).config.line) ∨
      s.nodeUser n = none) :
    s.commitNode n w =
      (s.setNode n { config := nodeFields w, state := .unknown, misses := 0, score := 0 }, .done) := by
  simp only [State.commitNode, passes, Bool.and_eq_true, bne_iff_ne]
  split
  · next moves => rw [free.resolve_left (not_not_intro moves)]
  · rfl

theorem State.commitSettings_running {x : LineId} (on : (s.line x).lineState ≠ .off) :
    s.commitSettings x w = (s, .wrongState) := if_neg on

theorem State.commitSettings_range {x : LineId} (off : (s.line x).lineState = .off)
    (fails : settingsRange w = some offset) :
    s.commitSettings x w = (s, { result := .range, detail := offset }) := by
  simp only [State.commitSettings, off, if_true, fails]

theorem State.commitSettings_off {x : LineId} (off : (s.line x).lineState = .off)
    (passes : settingsRange w = none) :
    s.commitSettings x w =
      (s.setLine x { s.line x with settings := settingsFields w }, .done) := by
  simp only [State.commitSettings, off, if_true, passes]

end Checks

/-! ## The command -/

/-- COMMIT answers as the owner of the open table judges the buffer (R169). -/
theorem exec_commit_of_port {s u : State} {a : Answer} (accepted : s.accepted = some .commit)
    (commits : s.commitPort = (u, a)) : exec .commit s = .next (u.complete a) := by
  rw [exec_commit accepted, commits]

/-- Settles O45: each window is checked field by field, and the commit of each table refuses or writes by its
own lemma. -/
theorem commitOfTheOtherTables : Obligations.CommitOfTheOtherTables := by
  refine ⟨fun w => ⟨directoryRange_firstFailure w, directoryFields_of_range w,
    slotRange_firstFailure w, slotFields_of_range w, nodeRange_firstFailure w,
    nodeFields_of_range w, settingsRange_firstFailure w, settingsFields_of_range w⟩, ?_⟩
  intro s accepted isOpen w refused done
  have port := fun {u a} => exec_commit_of_port (s := s) (u := u) (a := a) accepted
  refine ⟨fun k table index => ?_, fun i table index => ?_, fun n table index => ?_,
    fun x table index => ?_⟩
  · have commits : s.commitPort = s.commitDirectory k w := by
      simp only [State.commitPort, isOpen, table, index, if_true, entry_byte _ k (by decide), w]
    exact ⟨fun offset fails => port (commits.trans (State.commitDirectory_range fails)),
      fun passes =>
        ⟨fun locked => port (commits.trans (State.commitDirectory_locked passes locked)),
          fun free => port (commits.trans (State.commitDirectory_free passes free))⟩⟩
  · have commits : s.commitPort = s.commitSlot i w := by
      simp only [State.commitPort, isOpen, table, index, if_true, entry_byte _ i (by decide), w]
    exact ⟨fun offset fails => port (commits.trans (State.commitSlot_range fails)),
      fun passes =>
        ⟨fun k locked covers lowest =>
            port (commits.trans (State.commitSlot_locked passes locked covers lowest)),
          fun free => port (commits.trans (State.commitSlot_free passes free))⟩⟩
  · have commits : s.commitPort = s.commitNode n w := by
      simp only [State.commitPort, isOpen, table, index, if_true, entry_byte _ n (by decide), w]
    exact ⟨fun offset fails => port (commits.trans (State.commitNode_range fails)),
      fun passes =>
        ⟨fun d ⟨inUse, moves⟩ user lowest =>
            port (commits.trans (State.commitNode_used passes inUse moves
              (State.nodeUser_eq_some.mpr ⟨user, lowest⟩))),
          fun free => port (commits.trans (State.commitNode_free passes
            (free.imp_right State.nodeUser_eq_none.mpr)))⟩⟩
  · have commits : s.commitPort = s.commitSettings x w := by
      simp only [State.commitPort, isOpen, table, index, if_true, lineEntry_lineCode, w]
    exact ⟨fun on => port (commits.trans (State.commitSettings_running on)),
      fun off =>
        ⟨fun offset fails => port (commits.trans (State.commitSettings_range off fails)),
          fun passes => port (commits.trans (State.commitSettings_off off passes))⟩⟩

end Sys2Proof.Machine
end

-- ==== Proofs: line commands ====
section
/-! START, STOP_END, STOP_NOW, SWITCH, HOLD_SET and HOLD_CLEAR outside a release, and LINE_RESET (R84, R89,
R96 to R99, R101). -/

namespace Sys2Proof.Machine

/-! ## The taking of a command -/

section Taken

variable {s : State} {x : LineId} {k : Fin 8}

theorem exec_start (accepted : s.accepted = some (.start x k)) :
    exec .start s = .next (s.takeStart x k) := by
  simp only [exec, execStart, accepted]

theorem exec_stopEnd (accepted : s.accepted = some (.stopEnd x)) :
    exec .stopEnd s = .next (s.takeStopEnd x) := by
  simp only [exec, execStopEnd, accepted]

theorem exec_stopNow (accepted : s.accepted = some (.stopNow x)) :
    exec .stopNow s = .next (s.takeStopNow x) := by
  simp only [exec, execStopNow, accepted]

theorem exec_switch (accepted : s.accepted = some (.switch x k)) :
    exec .switch s = .next (s.takeSwitch x k) := by
  simp only [exec, execSwitch, accepted]

theorem exec_holdSet (accepted : s.accepted = some (.holdSet x)) :
    exec .holdSet s = .next ((s.setHoldFlag x true).complete .done) := by
  simp only [exec, execHoldSet, accepted]

theorem exec_holdClear (accepted : s.accepted = some (.holdClear x)) :
    exec .holdClear s = .next ((s.setHoldFlag x false).complete .done) := by
  simp only [exec, execHoldClear, accepted]

theorem exec_lineReset (accepted : s.accepted = some (.lineReset x)) :
    exec .lineReset s = .next ((s.resetLine x).complete .done) := by
  simp only [exec, execLineReset, accepted]

end Taken

/-! ## START -/

/-- START with success, as the new controller and its two records (R93, R96). -/
theorem State.startLine_eq (s : State) (x : LineId) (k : Fin 8) :
    s.startLine x k =
      ((s.setLine x { (s.line x).started with active := some k, cycleCount := 0 }).posted
        (.lineController x)
        [scheduleTakenRecord x k (s.line x).active,
         lineChangeRecord x .running .command 0xFF 0]).beginSlot x (s.line x).time := by
  have running : { (s.line x).started with active := some k, cycleCount := 0, lineState := .running }
      = { (s.line x).started with active := some k, cycleCount := 0 } := rfl
  simp only [State.startLine, State.takeSchedule_eq, State.goRunning_eq, State.posted_line,
    State.setLine_line_same, State.posted_setLine, State.setLine_setLine, State.posted_posted,
    running]
  rfl

/-- Settles O12: `takeStart` by line state and validation, and `startLine` as its two records. -/
theorem startCommand : Obligations.StartCommand := by
  intro s x k accepted
  rw [exec_start accepted]
  refine ⟨fun on => ?_, fun off detail fails => ?_, fun off inactive passes => ?_⟩
  · simp only [State.takeStart, on, if_false]
    rfl
  · simp only [State.takeStart, off, if_true, fails]
  · simp only [State.takeStart, off, if_true, passes, State.startLine_eq, inactive]
    rfl

/-! ## STOP_END and STOP_NOW -/

/-- A completion with a free DETAIL is an answer (assumption 1). -/
theorem State.completeFree_answered (s : State) (r : Result) : s.Answered r (s.completeFree r) := rfl

/-- Settles O13: `takeStopEnd` by line state. -/
theorem stopEndCommand : Obligations.StopEndCommand := by
  intro s x accepted
  refine ⟨s.takeStopEnd x, exec_stopEnd accepted, fun st => ?_, fun st => ?_, fun st => ?_,
    fun st => ?_, ?_⟩
  · simpa only [State.takeStopEnd, st] using s.completeFree_answered _
  · simpa only [State.takeStopEnd, st] using s.completeFree_answered _
  · simp only [State.takeStopEnd, st, State.postLineChange_eq, State.setLine_line_same]
    exact State.completeFree_answered _ _
  · simpa only [State.takeStopEnd, st] using State.completeFree_answered _ _
  · rintro (st | st | st) <;>
      simpa only [State.takeStopEnd, st, State.goOff_eq] using State.completeFree_answered _ _

/-- A frame that a command cancels ends CANCELLED on the clock as it stands; a line at rest is left as it
is (R35, R37). -/
theorem State.endFrame_cancelled (s : State) (x : LineId) :
    ((s.line x).seq.frameState = .idle → s.endFrame x .cancelled [] = s) ∧
    (∀ d source kind, s.DescriptorFrame x d source kind →
      State.FrameEnded x d source kind .cancelled [] s (s.endFrame x .cancelled [])) ∧
    (s.HushFrame x → State.HushEnded x .cancelled s (s.endFrame x .cancelled [])) ∧
    ((s.endFrame x .cancelled []).line x).time = (s.line x).time :=
  ⟨s.endFrame_idle x _ _, fun d source kind => s.endFrame_ended_now x d source kind _ _,
    s.endFrame_hush_now x _ _, s.endFrame_time x _ _⟩

/-- A line that is OFF has no part in the locked closure (R81, R84). -/
theorem State.goOff_lineClosure (s : State) (x : LineId) (cause : Cause) :
    (s.goOff x cause).lineClosure x = [] := by
  simp [State.lineClosure, State.goOff, LineController.wentOff, State.closureOf]

/-- Settles O14: the frame in flight is cancelled, and the line of the state it leaves goes OFF. -/
theorem stopNowCommand : Obligations.StopNowCommand := by
  refine ⟨fun l => rfl, fun s x accepted => ?_⟩
  rw [exec_stopNow accepted]
  refine ⟨fun off => ?_, fun on => ?_⟩
  · simp only [State.takeStopNow, off, if_true]
    rfl
  · obtain ⟨idle, descriptor, hush, time⟩ := s.endFrame_cancelled x
    refine ⟨s.endFrame x .cancelled [], _, rfl, idle, descriptor, hush, time, ?_, ?_⟩
    · simp only [State.takeStopNow, on, if_false, State.goOff_eq]
      rfl
    · simp only [State.takeStopNow, on, if_false]
      exact State.goOff_lineClosure _ x .command

/-! ## SWITCH -/

theorem LineState.takesSwitch_iff (st : LineState) :
    st.takesSwitch = true ↔ st ≠ .off ∧ st ≠ .draining := by
  cases st <;> decide

/-- Settles O15: `takeSwitch` by line state and validation. -/
theorem switchCommand : Obligations.SwitchCommand := by
  intro s x k accepted
  rw [exec_switch accepted]
  refine ⟨fun refusing => ?_, fun on running => ?_⟩
  · have refused : ¬ (s.line x).lineState.takesSwitch = true := by
      rw [LineState.takesSwitch_iff]
      tauto
    simp only [State.takeSwitch, refused]
    rfl
  · have takes := ((s.line x).lineState.takesSwitch_iff).mpr ⟨on, running⟩
    refine ⟨fun detail fails => ?_, fun passes => ?_⟩
    · simp only [State.takeSwitch, takes, if_true, fails]
    · simp only [State.takeSwitch, takes, if_true, passes]
      rfl

/-! ## The hold request -/

theorem LineController.holdRequest_iff (l : LineController) :
    l.holdRequest = true ↔
      l.holdFlag = true ∨ l.settings.holdPinEnable = true ∧ l.pinAsserted = true := by
  simp [LineController.holdRequest]

/-- A change of the hold request that does not end it in HELD releases nothing (R89). -/
theorem State.holdChanged_kept {s : State} {x : LineId} {before : Bool}
    (kept : (s.line x).lineState ≠ .held ∨ before = false ∨ (s.line x).holdRequest = true) :
    s.holdChanged x before = s := by
  unfold State.holdChanged
  refine if_neg fun ⟨held, was, ends⟩ => ?_
  simp [held, was, ends] at kept

/-- A hold request that ends in HELD releases the line (R89). -/
theorem State.holdChanged_released {s : State} {x : LineId} {before : Bool}
    (held : (s.line x).lineState = .held) (was : before = true)
    (ends : (s.line x).holdRequest = false) : s.holdChanged x before = s.release x :=
  if_pos ⟨held, was, ends⟩

/-- A hold request that is set releases nothing (R89). -/
theorem State.setHoldFlag_true (s : State) (x : LineId) :
    s.setHoldFlag x true = s.setLine x { s.line x with holdFlag := true } :=
  State.holdChanged_kept (.inr (.inr (by simp [LineController.holdRequest])))

/-- Settles O16: neither command releases the line here, since the request stays active or was not, or the
line is not HELD. -/
theorem holdCommands : Obligations.HoldCommands := by
  refine ⟨LineController.holdRequest_iff, fun s x accepted => ?_, fun s x accepted kept => ?_⟩
  · rw [exec_holdSet accepted, State.setHoldFlag_true]
    rfl
  · have stays : (s.setHoldFlag x false) = s.setLine x { s.line x with holdFlag := false } := by
      refine State.holdChanged_kept ?_
      rw [State.setLine_line_same]
      exact kept.imp_right (Or.imp_right fun pin => (LineController.holdRequest_iff _).mpr (.inr pin))
    rw [exec_holdClear accepted, stays]
    rfl

/-! ## LINE_RESET -/

/-- The flush changes the ad-hoc states of the flushed descriptors alone (R119). -/
theorem State.flushViews_eq (s : State) (queue : List (Fin 64)) :
    s.flushViews queue = { s with descriptors := (s.flushViews queue).descriptors } := by
  induction queue generalizing s with
  | nil => rfl
  | cons d rest ih => exact ih (s.setAdhoc d .none)

theorem State.flushViews_desc (s : State) (queue : List (Fin 64)) (d : Fin 64) :
    (s.flushViews queue).desc d =
      { s.desc d with adhoc := if d ∈ queue then .none else (s.desc d).adhoc } := by
  rw [← State.flushViews_adhoc]
  induction queue generalizing s with
  | nil => rfl
  | cons e rest ih =>
    refine (ih (s.setAdhoc e .none)).trans ?_
    rw [State.setAdhoc_desc]
    split <;> rfl

/-- The records of a line reset: the flushed requests, and the change to OFF where there is one (R101). -/
def State.resetRecords (s : State) (x : LineId) (before : LineState) : List Post :=
  (s.line x).queue.map
      (fun d => adhocEndRecord x d (outcomeCode .cancelled) (s.line x).cycleCount)
    ++ (if before = .off then [] else [lineChangeRecord x .off .reset 0xFF 0])

/-- A line reset of the state `u` that the end of the frame in flight leaves (R101). -/
theorem State.resetLine_eq (s : State) (x : LineId) :
    let u := s.endFrame x .cancelled []
    s.resetLine x =
      ((((u.flushViews (u.line x).queue).mapNodes (Node.lineReset x)).setLine x
        (u.line x).resetFields).setEvents
          (u.events.hold x (u.resetRecords x (s.line x).lineState))) := by
  intro u
  have events : (u.flushViews (u.line x).queue).events = u.events := by rw [State.flushViews_eq]
  simp only [State.resetLine, State.mapNodes_line, State.flushViews_line, State.setLine_events,
    State.mapNodes_events, events, u]
  rfl

theorem EventUnit.hold_eq (e : EventUnit) (x : LineId) (records : List Post) :
    e.hold x records =
      if records = [] then e
      else
        { e with
          holds := e.holds ++
            [{ line := x, waiting := (e.path (.lineController x)).length, records := records }] } := by
  simp only [EventUnit.hold, List.isEmpty_iff]

/-- Settles O19: the frame in flight is cancelled, and the rest is the reset of the state it leaves. -/
theorem lineResetCommand : Obligations.LineResetCommand := by
  intro s x accepted
  obtain ⟨idle, descriptor, hush, time⟩ := s.endFrame_cancelled x
  refine ⟨s.endFrame x .cancelled [], _, exec_lineReset accepted, idle, descriptor, hush, time, ?_⟩
  rw [s.resetLine_eq x]
  generalize s.endFrame x .cancelled [] = u
  refine ⟨?_, fun y other => ?_, fun n => ?_, fun d => ?_, ?_, ?_⟩
  · simp only [State.complete_line, State.setEvents_line, State.setLine_line_same]
    rfl
  · simp [State.setLine_line, other]
  · simp [Node.lineReset]
  · simp [State.flushViews_desc]
  · simp [EventUnit.hold_eq, State.resetRecords]
  · rw [State.flushViews_eq]
    simp [State.complete, Answer.done]

end Sys2Proof.Machine
end

-- ==== Proofs: slots and cycles ====
section
/-! Slot starts (R60 to R62, R82, R85 to R87, R142), slot ends (R88, R91, R124), the cycle boundary at
the end of a cycle and of recovery (R83, R94, R129), the release of a HELD line (R89 to R91, R95) and
the HOLD pin (R90). -/

namespace Sys2Proof.Machine

/-! ## The slot a line is at -/

theorem State.slotAt_eq_some (s : State) (k : Fin 8) (position : Nat) (i : Fin 128) :
    s.slotAt k position = some i ↔ i.val = (s.dir k).firstSlot + position := by
  unfold State.slotAt
  split
  · simp [Fin.ext_iff, eq_comm]
  · next outside =>
    simp only [reduceCtorEq, false_iff]
    exact fun inside => outside (inside ▸ i.isLt)

theorem State.currentSlot_eq_some (s : State) (x : LineId) (i : Fin 128) :
    s.currentSlot x = some i ↔
      ∃ k, (s.line x).active = some k ∧ i.val = (s.dir k).firstSlot + (s.line x).slotIndex := by
  unfold State.currentSlot
  cases (s.line x).active with
  | none => simp
  | some k => simp [State.slotAt_eq_some]

/-- The slot a line is at depends on its active schedule and its slot index alone (R82). -/
theorem State.setLine_currentSlot (s : State) (x : LineId) {l : LineController}
    (active : l.active = (s.line x).active) (index : l.slotIndex = (s.line x).slotIndex) :
    (s.setLine x l).currentSlot x = s.currentSlot x := by
  simp only [State.currentSlot, State.slotAt, State.setLine_line_same, State.setLine_dir, active,
    index]

/-! ## Slot starts -/

theorem Slot.runs_iff (e : Slot) (count : Count16) :
    e.runs count = true ↔ count.toNat % e.divisor = e.phase := by
  simp [Slot.runs]

/-- Probe gating lets a slot run unless its descriptor names a MISSING node outside a probe cycle (R86,
R142). -/
theorem State.gateOpen_iff (s : State) (d : Fin 64) (count : Count16) :
    s.gateOpen d count = true ↔
      ∀ n, (s.desc d).config.node = some n → (s.node n).state = .missing →
        count.toNat % (s.node n).config.probeDivisor = 0 := by
  unfold State.gateOpen
  cases (s.desc d).config.node with
  | none => simp
  | some n => simp [or_iff_not_imp_left]

/-- A line whose slot has begun at the instant `t`: the origin of its base is set (R85). -/
def State.slotBegun (s : State) (x : LineId) (t : Nat) : State :=
  s.setLine x
    { s.line x with slotStart := some t, bitsJudged := 0, bitsSampled := 0, hushOk := false }

section Begins

variable {s : State} {x : LineId} {i : Fin 128} (t : Nat)

/-- A slot start sets the origin, and does the slot's work where it runs in this cycle (R62, R85). -/
theorem State.beginSlot_eq (current : s.currentSlot x = some i) :
    s.beginSlot x t =
      if (s.line x).cycleCount.toNat % (s.slot i).divisor = (s.slot i).phase then
        (s.slotBegun x t).slotWork x i
      else s.slotBegun x t := by
  have begun := (s.setLine_currentSlot x (l := { (s.line x).setOrigin t with hushOk := false })
    rfl rfl).trans current
  simp only [State.beginSlot, begun, Slot.runs_iff, State.setLine_slot, State.setLine_line_same]
  rfl

/-- The work of a REGULAR slot: its descriptor's frame, where probe gating lets it run (R86). -/
theorem State.slotWork_regular (regular : (s.slot i).kind = .regular) :
    s.slotWork x i =
      if ∀ n, (s.desc (s.slot i).descriptor).config.node = some n → (s.node n).state = .missing →
          (s.line x).cycleCount.toNat % (s.node n).config.probeDivisor = 0 then
        s.startFrame x (.scheduled i) (s.slot i).descriptor
      else s := by
  simp only [State.slotWork, regular, State.gateOpen_iff]

end Begins

/-- Settles O20: the slot start does the work of its slot where it runs, kind by kind. -/
theorem slotStart : Obligations.SlotStart := by
  refine ⟨State.currentSlot_eq_some, fun s x t i current => ?_⟩
  intro e u runs
  have starts := State.beginSlot_eq t current
  have runs_starts : runs → s.beginSlot x t = u.slotWork x i := fun r => starts.trans (if_pos r)
  have slot : u.slot i = e := s.setLine_slot x _ i
  have line : u.line x = _ := s.setLine_line_same x _
  have desc : ∀ d, u.desc d = s.desc d := s.setLine_desc x _
  have node : ∀ n, u.node n = s.node n := s.setLine_node x _
  refine ⟨fun r => starts.trans (if_neg r), fun r kind => ?_, fun r kind => ?_,
    fun r kind => ⟨fun n names missing closed => ?_, fun probes => ?_⟩, fun r kind => ?_,
    fun r kind => ?_⟩ <;> rw [runs_starts r]
  · rcases kind with kind | kind <;> simp only [State.slotWork, slot, kind]
  · simp only [State.slotWork, slot, kind, State.postLine_eq, line]
  · rw [State.slotWork_regular (slot ▸ kind), if_neg]
    simp only [slot, line, desc, node]
    exact fun probes => closed (probes n names missing)
  · rw [State.slotWork_regular (slot ▸ kind), if_pos]
    · simp only [State.startFrame, State.setSeq, slot, desc]
    · simpa only [slot, line, desc, node] using probes
  · simp only [State.slotWork, slot, kind]
    rfl
  · simp only [State.slotWork, slot, kind, line]

/-! ## Slot ends -/

/-- The end of a slot's length from the origin of the base (R85, R88). -/
def State.slotEndAt (s : State) (x : LineId) (i : Fin 128) : Nat :=
  (s.line x).slotStart.getD (s.line x).time + (s.slot i).length * (s.line x).settings.divisor

/-- A SLOT_END that is due moves the clock to the end of the slot and ends it there. -/
theorem State.slotEnds_eq {s : State} {x : LineId} {k : Fin 8} {i : Fin 128}
    (runs : (s.line x).lineState = .running ∨ (s.line x).lineState = .draining)
    (idle : (s.line x).seq.frameState = .idle) (active : (s.line x).active = some k)
    (current : s.currentSlot x = some i) :
    s.slotEnds x =
      (s.setLine x { s.line x with time := max (s.line x).time (s.slotEndAt x i) }).endSlot x k
        (s.slotEndAt x i) := by
  simp only [State.slotEnds, runs, idle, and_self, if_true, active, current, State.reach,
    LineController.reach_idle _ _ idle]
  rfl

section EndSlot

variable {s : State} {x : LineId} {k : Fin 8} (t : Nat)

theorem State.endSlot_asleep (hush : (s.line x).hushOk = true) :
    s.endSlot x k t = s.goAsleep x := by
  simp only [State.endSlot, hush, if_true]

theorem State.endSlot_last (awake : (s.line x).hushOk = false)
    (last : (s.dir k).slotCount ≤ (s.line x).slotIndex + 1) :
    s.endSlot x k t = (s.countCycle x).boundary x t true .recovered := by
  simp only [State.endSlot, awake, last, Bool.false_eq_true, if_true, if_false]

/-- The slot end inside a cycle on an awake line: hold, or the next slot (R88, R91). -/
theorem State.endSlot_inside (awake : (s.line x).hushOk = false)
    (inside : (s.line x).slotIndex + 1 < (s.dir k).slotCount) :
    s.endSlot x k t =
      if (s.line x).lineState = .running ∧ (s.line x).settings.holdPoint = .slot ∧
          (s.line x).holdRequest = true then
        s.goHeld x ((s.line x).slotIndex + 1)
      else
        (s.setLine x { s.line x with slotIndex := (s.line x).slotIndex + 1 }).beginSlot x t := by
  simp only [State.endSlot, awake, not_le.mpr inside, Bool.false_eq_true, if_false]

end EndSlot

theorem State.setLine_slotNumber (s : State) (x : LineId) (l : LineController)
    (schedule : Option (Fin 8)) (position : Nat) :
    (s.setLine x l).slotNumber schedule position = s.slotNumber schedule position := by
  simp only [State.slotNumber, State.slotAt, State.setLine_dir]

/-- Settles O23: the clock stands at the slot's end, and `endSlot` goes on from there. -/
theorem slotEndInsideTheCycle : Obligations.SlotEndInsideTheCycle := by
  intro s x k i runs idle active current ends l
  have ended : exec (.slotEnd x) s = .next ((s.setLine x l).endSlot x k ends) :=
    congrArg Host.Outcome.next (State.slotEnds_eq runs idle active current)
  have line : (s.setLine x l).line x = l := s.setLine_line_same x l
  rw [ended]
  refine ⟨fun hush => ?_, fun awake inside => ?_⟩
  · rw [State.endSlot_asleep ends (congrArg LineController.hushOk line |>.trans hush),
      State.goAsleep_eq, line, State.setLine_setLine]
  · have goesOn := State.endSlot_inside ends (congrArg LineController.hushOk line |>.trans awake)
      (k := k) (by rwa [line, State.setLine_dir])
    rw [line] at goesOn
    refine ⟨fun holds => ?_, fun goes => ?_⟩
    · rw [goesOn.trans (if_pos holds), State.goHeld_eq, line, State.setLine_setLine,
        State.setLine_slotNumber]
      simp only [l, active]
    · rw [goesOn.trans (if_neg goes), State.setLine_setLine]

/-! ## Cycle boundaries -/

/-- The end of recovery moves the clock to the end of the bit time last judged, ends the RECOVERY phase and
processes a full boundary (R128, R129). -/
theorem State.recoveryEnds_eq {s : State} {x : LineId} (waking : (s.line x).lineState = .waking)
    (idle : (s.line x).seq.frameState = .idle) (phase : (s.line x).monitor.wakePhase = .recovery)
    (count : (s.line x).settings.recovery ≤ (s.line x).monitor.recoveryCount) :
    let n := (s.line x).bitsJudged * (s.line x).settings.divisor
    let ends := (s.line x).slotStart.getD (s.line x).time + n
    s.recoveryEnds x =
      (s.setLine x
        { s.line x with
          time := max (s.line x).time ends, cycleCount := (s.line x).cycleCount + 1,
          monitor := { (s.line x).monitor with wakePhase := .none, recoveryCount := 0 } }).boundary
        x ends true .recovered := by
  have recovered : (s.line x).recovered = true := by
    simp [LineController.recovered, waking, phase, count]
  simp only [State.recoveryEnds, recovered, if_true, State.reach, State.setMonitor,
    State.countCycle, State.setLine_line_same, State.setLine_setLine,
    LineController.reach_idle _ _ idle]
  rfl

/-- Settles O24: both events count the cycle at their instant and process the boundary from there. -/
theorem cycleBoundaryAtSlotEndAndRecoveryEnd :
    Obligations.CycleBoundaryAtSlotEndAndRecoveryEnd := by
  refine ⟨fun s x k i runs idle active current awake last => ?_,
    fun s x waking idle phase count => ?_⟩
  · intro ends
    refine ⟨_, congrArg Host.Outcome.next (State.slotEnds_eq runs idle active current), ?_⟩
    rw [State.endSlot_last _ (by rwa [State.setLine_line_same])
      (by rwa [State.setLine_line_same, State.setLine_dir]), State.countCycle,
      State.setLine_line_same, State.setLine_setLine]
    exact State.boundary_effect _ x ends true .recovered
  · intro ends
    exact ⟨_, congrArg Host.Outcome.next (State.recoveryEnds_eq waking idle phase count),
      State.boundary_effect _ x ends true .recovered⟩

/-! ## Release -/

/-- A change of controller that ends the hold request of a HELD line has the effect of a release (R91,
R95). -/
theorem State.holdChanged_effect {s : State} {x : LineId} {l : LineController} {before : Bool}
    (held : l.lineState = .held) (was : before = true) (ends : l.holdRequest = false) :
    State.ReleaseEffect x (s.setLine x l) ((s.setLine x l).holdChanged x before) := by
  rw [State.holdChanged_released (by rwa [State.setLine_line_same]) was
    (by rwa [State.setLine_line_same])]
  exact State.release_effect _ x

theorem LineController.holdRequest_eq_false (l : LineController) :
    l.holdRequest = false ↔
      l.holdFlag = false ∧ ¬ (l.settings.holdPinEnable = true ∧ l.pinAsserted = true) := by
  rw [← Bool.not_eq_true, LineController.holdRequest_iff, not_or, Bool.not_eq_true]

/-- The pin level is due for a change where two equal samples call for the other level (R90). -/
theorem LineController.levelDue_iff (l : LineController) :
    l.levelDue = true ↔ l.lineState ≠ .off ∧ l.lastSample = l.previousSample ∧
      l.pinAsserted ≠ (l.lastSample == .low) := by
  simp [LineController.levelDue, and_assoc]

/-- A level change takes the level of the last samples, and what follows of the hold request follows
(R89, R90). -/
theorem State.levelChanges_due {s : State} {x : LineId} (due : (s.line x).levelDue = true) :
    s.levelChanges x =
      (s.setLine x
        { s.line x with pinAsserted := (s.line x).lastSample == .low }).holdChanged x
        (s.line x).holdRequest :=
  if_pos due

theorem State.levelChanges_not_due {s : State} {x : LineId} (stays : (s.line x).levelDue = false) :
    s.levelChanges x = s := by
  simp [State.levelChanges, stays]

/-- Settles O17: by the flag and by the pin, the request was active and ends, and `release` follows. -/
theorem releaseFromHeld : Obligations.ReleaseFromHeld := by
  refine ⟨fun s x accepted held flag pin => ?_, fun s x held asserted enabled flag last before => ?_⟩
  · refine ⟨_, ?_, exec_holdClear accepted⟩
    exact State.holdChanged_effect held ((LineController.holdRequest_iff _).mpr (.inl flag))
      ((LineController.holdRequest_eq_false _).mpr ⟨rfl, pin⟩)
  · have due : (s.line x).levelDue = true := by
      simp [LineController.levelDue_iff, held, asserted, last, before]
    have released := State.levelChanges_due due
    rw [last] at released
    refine ⟨_, ?_, congrArg Host.Outcome.next released⟩
    exact State.holdChanged_effect held
      ((LineController.holdRequest_iff _).mpr (.inr ⟨enabled, asserted⟩))
      ((LineController.holdRequest_eq_false _).mpr ⟨flag, fun pin => nomatch pin.2⟩)

/-! ## The HOLD pin -/

/-- A sample of the HOLD pin at the middle of the next bit time (R90). -/
theorem State.samplePin_on {s : State} {x : LineId} (reading : PinLevel)
    (on : (s.line x).lineState ≠ .off) :
    let l := s.line x
    let bit := max l.bitsSampled (l.elapsed / l.settings.divisor)
    let l' := l.reach (bit * l.settings.divisor + 8 * l.settings.divisor / 16)
    s.samplePin x reading =
      s.setLine x
        { l'.countPulse with
          previousSample := l.lastSample, lastSample := reading, bitsSampled := bit + 1 } := by
  intro l bit l'
  have last : l'.countPulse.lastSample = l.lastSample := by simp [l']
  rw [← last]
  exact if_neg on

/-- A change of the pin level that does not end the hold request in HELD changes nothing else, and where the
level stands as the samples have it there is none (R89, R90). -/
theorem State.levelChanges_kept {s : State} {x : LineId} {level : PinLevel}
    (on : (s.line x).lineState ≠ .off) (last : (s.line x).lastSample = level)
    (previous : (s.line x).previousSample = level)
    (kept : level = .low ∨ (s.line x).lineState ≠ .held ∨ (s.line x).holdFlag = true ∨
      (s.line x).settings.holdPinEnable = false ∨ (s.line x).pinAsserted = false) :
    s.levelChanges x = s.setLine x { s.line x with pinAsserted := level == .low } := by
  by_cases stands : (s.line x).pinAsserted = (level == .low)
  · rw [State.levelChanges_not_due (by simp [LineController.levelDue, last, stands]), ← stands]
    exact (s.setLine_line_self x).symm
  · have due := (s.line x).levelDue_iff.mpr ⟨on, last.trans previous.symm, last ▸ stands⟩
    rw [State.levelChanges_due due, last]
    refine State.holdChanged_kept ?_
    rw [State.setLine_line_same, LineController.holdRequest_eq_false, LineController.holdRequest_iff]
    by_cases flag : (s.line x).holdFlag = true
    · exact .inr (.inr (.inl flag))
    have unset := Bool.eq_false_iff.mpr flag
    by_cases enabled : (s.line x).settings.holdPinEnable = true
    · rcases kept with rfl | held | set | disabled | released
      · exact .inr (.inr (.inr ⟨enabled, rfl⟩))
      · exact .inl held
      · exact absurd set flag
      · exact absurd enabled (Bool.eq_false_iff.mp disabled)
      · exact .inr (.inl ⟨unset, fun pin => absurd pin.2 (Bool.eq_false_iff.mp released)⟩)
    · exact .inr (.inl ⟨unset, fun pin => enabled pin.1⟩)

/-- Settles O39: the sample, the two equal levels, and the samples that differ. -/
theorem holdPin : Obligations.HoldPin := by
  refine ⟨fun s x reading on => ?_, fun s x on => ⟨fun last previous => ?_,
    fun last previous kept => ?_, fun differ => ?_⟩⟩
  · intro l bit
    refine ⟨_, congrArg Host.Outcome.next (State.samplePin_on reading on), ?_, ?_⟩
    · rw [State.setLine_line_same]
    · rw [State.setLine_line_same, LineController.countPulse_eq]
      rfl
  · exact congrArg Host.Outcome.next (State.levelChanges_kept on last previous (.inl rfl))
  · exact congrArg Host.Outcome.next (State.levelChanges_kept on last previous (.inr kept))
  · refine congrArg Host.Outcome.next (State.levelChanges_not_due ?_)
    rw [← Bool.not_eq_true, LineController.levelDue_iff]
    exact fun ⟨_, same, _⟩ => differ same

end Sys2Proof.Machine
end

-- ==== Proofs: the line a row acts on ====
section
/-! Every row of the opcode table by the line it acts on and by what it may do to that line's cycle
count: no row touches the other line (R2, R100), and a cycle count changes only where R83 says. -/

namespace Sys2Proof.Machine

/-! ## Changes of a cycle count -/

/-- How far a row may change the cycle count of the line it acts on (R83). -/
inductive CountChange where
  | none | clear | advance

/-- The counts that a change may lead to. -/
def CountChange.Allows : CountChange → Count16 → Count16 → Prop
  | .none, before, after => after = before
  | .clear, before, after => after = before ∨ after = 0
  | .advance, before, after => after = before ∨ after = before + 1 ∨ after = 0

theorem CountChange.allows_self (m : CountChange) (count : Count16) : m.Allows count count := by
  cases m with
  | none => rfl
  | clear | advance => exact .inl rfl

/-- The rows that R83 names for a change of a cycle count, a power-on reset apart. -/
def Instr.countChange : Instr → CountChange
  | .slotEnd _ | .recoveryEnd _ => .advance
  | .start | .lineReset | .holdClear | .holdPinLevelChange _ => .clear
  | _ => .none

/-! ## The cycle count in the runner -/

@[simp] theorem State.endFrame_cycleCount (s : State) (x : LineId) (o : FrameOutcome)
    (reply : List Byte) : ((s.endFrame x o reply).line x).cycleCount = (s.line x).cycleCount := by
  rw [State.endFrame_line]

@[simp] theorem State.serve_cycleCount (x : LineId) (slotLength : Nat) (queue : List (Fin 64))
    (s : State) : ((s.serve x slotLength queue).line x).cycleCount = (s.line x).cycleCount := by
  induction queue generalizing s with
  | nil => simp [State.serve]
  | cons d rest ih =>
    unfold State.serve
    dsimp only
    split
    · simp [State.startFrame]
    · rw [ih]
      simp

theorem State.slotWork_cycleCount (s : State) (x : LineId) (i : Fin 128) :
    ((s.slotWork x i).line x).cycleCount = (s.line x).cycleCount := by
  unfold State.slotWork
  dsimp only
  split
  case h_1 | h_2 => rfl
  case h_3 => split <;> simp [State.startFrame]
  case h_4 => simp
  case h_5 => exact s.serve_cycleCount x _ _
  case h_6 => simp [State.startHush]

@[simp] theorem State.beginSlot_cycleCount (s : State) (x : LineId) (t : Nat) :
    ((s.beginSlot x t).line x).cycleCount = (s.line x).cycleCount := by
  have begun : { (s.line x).setOrigin t with hushOk := false }.cycleCount = (s.line x).cycleCount :=
    rfl
  unfold State.beginSlot
  dsimp only
  split
  · simpa using begun
  · split
    · rw [State.slotWork_cycleCount]
      simpa using begun
    · simpa using begun

/-- A boundary sets the cycle count to 0 where a schedule is taken, and leaves it otherwise (R94). -/
theorem State.boundary_count (s : State) (x : LineId) (t : Nat) (followOns : Bool) (cause : Cause) :
    CountChange.clear.Allows (s.line x).cycleCount
      ((s.boundary x t followOns cause).line x).cycleCount := by
  have taken : ∀ k : Option (Fin 8), CountChange.clear.Allows (s.line x).cycleCount
      (if k.isSome then 0 else (s.line x).cycleCount) := fun k => by
    split
    · exact .inr rfl
    · exact .inl rfl
  have effect := s.boundary_effect x t followOns cause
  unfold State.BoundaryEffect at effect
  dsimp only at effect
  split at effect
  · rw [effect, State.posted_line, State.setLine_line_same]
    exact .inl rfl
  · split at effect
    · rw [effect, State.posted_line, State.setLine_line_same]
      exact taken _
    · split at effect
      · rw [effect, State.beginSlot_cycleCount, State.posted_line, State.setLine_line_same]
        exact taken _
      · rw [effect, State.beginSlot_cycleCount, State.posted_line, State.setLine_line_same]
        exact taken _

theorem State.holdChanged_count (s : State) (x : LineId) (before : Bool) :
    CountChange.clear.Allows (s.line x).cycleCount
      ((s.holdChanged x before).line x).cycleCount := by
  unfold State.holdChanged State.release
  dsimp only
  split
  · split
    · exact s.boundary_count x _ _ _
    · exact .inl (by simp [State.goRunning])
  · exact .inl rfl

/-- A boundary after the count has advanced (R83, R94). -/
theorem State.countCycle_boundary_count {s : State} {x : LineId} {count : Count16}
    (same : (s.line x).cycleCount = count) (t : Nat) (followOns : Bool) (cause : Cause) :
    CountChange.advance.Allows count
      (((s.countCycle x).boundary x t followOns cause).line x).cycleCount := by
  have counted : ((s.countCycle x).line x).cycleCount = count + 1 := by
    simp [State.countCycle, same]
  exact .inr (counted ▸ (s.countCycle x).boundary_count x t followOns cause)

/-- A slot end inside a cycle leaves the count, and the end of the cycle advances it (R83, R88). -/
theorem State.endSlot_count {s : State} {x : LineId} {count : Count16}
    (same : (s.line x).cycleCount = count) (k : Fin 8) (t : Nat) :
    CountChange.advance.Allows count ((s.endSlot x k t).line x).cycleCount := by
  unfold State.endSlot
  dsimp only
  split
  · exact .inl (by simpa [State.goAsleep] using same)
  · split
    · exact State.countCycle_boundary_count same t _ _
    · split
      · exact .inl (by simpa [State.goHeld] using same)
      · exact .inl (by simpa using same)

/-! ## The line a row acts on -/

/-- A row that acts on at most the line `o`: every other line stands, and the cycle count of this one
changes at most as `m` allows. -/
structure State.ActsOn (o : Option LineId) (m : CountChange) (s t : State) : Prop where
  other : ∀ y, o ≠ some y → t.line y = s.line y
  count : ∀ x, o = some x → m.Allows (s.line x).cycleCount (t.line x).cycleCount

section ActsOn

variable {s t u : State} {x : LineId} {o : Option LineId} {m : CountChange}

theorem State.ActsOn.of_line_eq (same : ∀ y, t.line y = s.line y) : State.ActsOn o m s t :=
  ⟨fun y _ => same y, fun x _ => (same x).symm ▸ m.allows_self _⟩

theorem State.ActsOn.refl : State.ActsOn o m s s := .of_line_eq fun _ => rfl

theorem State.SameTables.actsOn (same : s.SameTables t) : State.ActsOn o m s t :=
  .of_line_eq same.line

theorem State.ActsOn.then_same (h : State.ActsOn o m s t) (same : t.SameTables u) :
    State.ActsOn o m s u where
  other y apart := (same.line y).trans (h.other y apart)
  count x own := (same.line x).symm ▸ h.count x own

theorem State.ActsOn.complete (h : State.ActsOn o m s t) (a : Answer) :
    State.ActsOn o m s (t.complete a) := h.then_same (t.sameTables_complete a)

theorem State.ActsOn.completeFree (h : State.ActsOn o m s t) (r : Result) :
    State.ActsOn o m s (t.completeFree r) := h.then_same (t.sameTables_completeFree r)

theorem State.LineWork.actsOn (work : State.LineWork x s t)
    (count : m.Allows (s.line x).cycleCount (t.line x).cycleCount) :
    State.ActsOn (some x) m s t where
  other y apart := work.other y fun same => apart (same ▸ rfl)
  count _ own := Option.some_inj.mp own ▸ count

/-- The work of a line that keeps its cycle count. -/
theorem State.LineWork.keepsCount (work : State.LineWork x s t)
    (same : (t.line x).cycleCount = (s.line x).cycleCount) : State.ActsOn (some x) m s t :=
  work.actsOn (same.symm ▸ m.allows_self _)

/-- A command acts on the line it names. -/
theorem State.ActsOn.command {c : Command} (accepted : s.accepted = some c)
    (acts : State.ActsOn c.line m s t) : State.ActsOn (s.accepted.bind Command.line) m s t := by
  rwa [accepted, Option.bind_some]

theorem State.ActsOn.of_next (ends : (.next u : Host.Outcome State Fault Refusal) = .next t)
    (acts : State.ActsOn o m s u) : State.ActsOn o m s t := by
  cases ends
  exact acts

end ActsOn

/-! ## The events of a line -/

section Events

variable (s : State) (x : LineId)

theorem State.slotEnds_actsOn : State.ActsOn (some x) .advance s (s.slotEnds x) := by
  refine (s.lineWork_slotEnds x).actsOn ?_
  unfold State.slotEnds
  dsimp only
  split
  · split
    · exact State.endSlot_count (by simp) _ _
    · exact .inl rfl
  · exact .inl rfl

theorem State.recoveryEnds_actsOn : State.ActsOn (some x) .advance s (s.recoveryEnds x) := by
  refine (s.lineWork_recoveryEnds x).actsOn ?_
  unfold State.recoveryEnds
  dsimp only
  split
  · exact State.countCycle_boundary_count (by simp) _ _ _
  · exact .inl rfl

/-- The controller changes without a change of its count, and a HELD line may be released. -/
theorem State.holdChanged_actsOn {l : LineController} (before : Bool)
    (settings : l.settings = (s.line x).settings) (count : l.cycleCount = (s.line x).cycleCount) :
    State.ActsOn (some x) .clear s ((s.setLine x l).holdChanged x before) := by
  refine ((s.lineWork_setLine x l settings).trans (State.lineWork_holdChanged _ x before)).actsOn ?_
  rw [← count, ← congrArg LineController.cycleCount (s.setLine_line_same x l)]
  exact State.holdChanged_count _ x before

theorem State.setHoldFlag_actsOn (v : Bool) :
    State.ActsOn (some x) .clear s (s.setHoldFlag x v) := s.holdChanged_actsOn x _ rfl rfl

/-- HOLD_SET keeps the count, since it releases nothing. -/
theorem State.holdSet_actsOn : State.ActsOn (some x) .none s (s.setHoldFlag x true) := by
  rw [State.setHoldFlag_true]
  exact (s.lineWork_setLine x _ (by rfl)).keepsCount (by simp)

theorem State.levelChanges_actsOn : State.ActsOn (some x) .clear s (s.levelChanges x) := by
  unfold State.levelChanges
  dsimp only
  split
  · exact s.holdChanged_actsOn x _ rfl rfl
  · exact .refl

variable {m : CountChange}

theorem State.alertEnds_actsOn : State.ActsOn (some x) m s (s.alertEnds x) := by
  refine (s.lineWork_alertEnds x).keepsCount ?_
  unfold State.alertEnds
  dsimp only
  split <;> simp

theorem State.markEnds_actsOn : State.ActsOn (some x) m s (s.markEnds x) := by
  refine (s.lineWork_markEnds x).keepsCount ?_
  unfold State.markEnds
  dsimp only
  split <;> simp

theorem State.controlEnds_actsOn : State.ActsOn (some x) m s (s.controlEnds x) := by
  refine (s.lineWork_controlEnds x).keepsCount ?_
  unfold State.controlEnds
  dsimp only
  split
  · split <;> simp
  · rfl

theorem State.compareBit_actsOn (bit : Nat) (samples : Samples) :
    State.ActsOn (some x) m s (s.compareBit x bit samples) := by
  refine (s.lineWork_compareBit x bit samples).keepsCount ?_
  unfold State.compareBit
  dsimp only
  split
  · split <;> simp
  · rfl

theorem State.judgeStart_actsOn (edge deadline : Nat) (samples : Samples) (late : FrameOutcome) :
    State.ActsOn (some x) m s (s.judgeStart x edge deadline samples late) := by
  refine (s.lineWork_judgeStart x edge deadline samples late).keepsCount ?_
  unfold State.judgeStart
  dsimp only
  split
  · simp
  · split <;> simp

theorem State.startBit_actsOn (edge : Nat) (samples : Samples) :
    State.ActsOn (some x) m s (s.startBit x edge samples) := by
  unfold State.startBit
  dsimp only
  split
  · split <;> exact s.judgeStart_actsOn x _ _ _ _
  · exact .refl

theorem State.character_actsOn (bits : BitVec 9) :
    State.ActsOn (some x) m s (s.character x bits) := by
  refine (s.lineWork_character x bits).keepsCount ?_
  unfold State.character
  dsimp only
  split
  · split <;> simp
  · rfl

theorem State.replySpaceEnds_actsOn : State.ActsOn (some x) m s (s.replySpaceEnds x) := by
  refine (s.lineWork_replySpaceEnds x).keepsCount ?_
  unfold State.replySpaceEnds
  dsimp only
  split <;> simp

theorem State.replyGapEnds_actsOn : State.ActsOn (some x) m s (s.replyGapEnds x) := by
  refine (s.lineWork_replyGapEnds x).keepsCount ?_
  unfold State.replyGapEnds
  dsimp only
  split <;> simp

theorem State.compareCheck_actsOn : State.ActsOn (some x) m s (s.compareCheck x) := by
  refine (s.lineWork_compareCheck x).keepsCount ?_
  unfold State.compareCheck
  dsimp only
  split
  · split <;> simp
  · rfl

theorem State.windowEnds_actsOn : State.ActsOn (some x) m s (s.windowEnds x) := by
  refine (s.lineWork_windowEnds x).keepsCount ?_
  unfold State.windowEnds
  dsimp only
  split <;> simp

theorem State.pushSpaceEnds_actsOn : State.ActsOn (some x) m s (s.pushSpaceEnds x) := by
  refine (s.lineWork_pushSpaceEnds x).keepsCount ?_
  unfold State.pushSpaceEnds
  dsimp only
  split <;> simp

theorem State.pushEnds_actsOn : State.ActsOn (some x) m s (s.pushEnds x) := by
  refine (s.lineWork_pushEnds x).keepsCount ?_
  unfold State.pushEnds
  dsimp only
  split <;> simp

theorem State.judgeBit_actsOn (samples : Samples) :
    State.ActsOn (some x) m s (s.judgeBit x samples) := by
  refine (s.lineWork_judgeBit x samples).keepsCount ?_
  unfold State.judgeBit
  dsimp only
  split <;> simp

theorem State.samplePin_actsOn (reading : PinLevel) :
    State.ActsOn (some x) m s (s.samplePin x reading) := by
  refine (s.lineWork_samplePin x reading).keepsCount ?_
  unfold State.samplePin
  dsimp only
  split <;> simp

theorem State.reportStuck_actsOn : State.ActsOn (some x) m s (s.reportStuck x) := by
  refine (s.lineWork_reportStuck x).keepsCount ?_
  unfold State.reportStuck
  dsimp only
  split
  · split <;> simp [State.enterFault]
  · rfl

theorem State.wakeRemotely_actsOn : State.ActsOn (some x) m s (s.wakeRemotely x) := by
  refine (s.lineWork_wakeRemotely x).keepsCount ?_
  unfold State.wakeRemotely
  dsimp only
  split <;> simp [State.goWaking]

theorem State.pulseEnds_actsOn : State.ActsOn (some x) m s (s.pulseEnds x) := by
  refine (s.lineWork_pulseEnds x).keepsCount ?_
  unfold State.pulseEnds
  dsimp only
  split <;> simp

end Events

/-! ## Line commands -/

section Commands

variable (s : State) (x : LineId)

/-- START clears the count (R83, R96). -/
theorem State.takeStart_actsOn (k : Fin 8) :
    State.ActsOn (some x) .clear s (s.takeStart x k) := by
  unfold State.takeStart
  split
  · split
    · exact State.ActsOn.refl.complete _
    · refine ((s.lineWork_startLine x k).actsOn (m := .clear) (.inr ?_)).complete _
      simp [State.startLine, State.takeSchedule, State.goRunning]
  · exact State.ActsOn.refl.complete _

variable {m : CountChange}

theorem State.takeStopEnd_actsOn : State.ActsOn (some x) m s (s.takeStopEnd x) := by
  unfold State.takeStopEnd
  split
  case h_1 | h_3 => exact State.ActsOn.refl.completeFree _
  case h_2 =>
    exact (((s.lineWork_setLine x _ (by rfl)).trans
      (State.lineWork_postLineChange _ x x _ _)).keepsCount (by simp)).completeFree _
  case h_4 => exact ((s.lineWork_setLine x _ (by rfl)).keepsCount (by simp)).completeFree _
  case h_5 | h_6 | h_7 =>
    exact ((s.lineWork_goOff x _).keepsCount
      (by simp [State.goOff, LineController.wentOff])).completeFree _

theorem State.takeStopNow_actsOn : State.ActsOn (some x) m s (s.takeStopNow x) := by
  unfold State.takeStopNow
  split
  · exact State.ActsOn.refl.complete _
  · exact (((s.lineWork_endFrame x _ _).trans (State.lineWork_goOff _ x _)).keepsCount
      (by simp [State.goOff, LineController.wentOff])).complete _

theorem State.takeSwitch_actsOn (k : Fin 8) :
    State.ActsOn (some x) m s (s.takeSwitch x k) := by
  unfold State.takeSwitch
  split
  · split
    · exact State.ActsOn.refl.complete _
    · exact ((s.lineWork_setLine x _ (by rfl)).keepsCount (by simp)).complete _
  · exact State.ActsOn.refl.complete _

/-- A command that wakes a line does so on a new origin (R127, R133). -/
theorem State.goWaking_actsOn (t : Nat) (monitor : Monitor) (cause : Cause) :
    State.ActsOn (some x) m s
      ((s.setLine x ((s.line x).setOrigin t)).goWaking x monitor cause) :=
  ((s.lineWork_setLine x _ (by rfl)).trans (State.lineWork_goWaking _ x monitor cause)).keepsCount
    (by simp [State.goWaking, LineController.setOrigin])

theorem State.takeWake_actsOn : State.ActsOn (some x) m s (s.takeWake x) := by
  unfold State.takeWake
  dsimp only
  split
  · exact (s.goWaking_actsOn x _ _ _).complete _
  · exact State.ActsOn.refl.complete _

theorem State.takeClearFault_actsOn : State.ActsOn (some x) m s (s.takeClearFault x) := by
  unfold State.takeClearFault
  dsimp only
  split
  · split
    · exact State.ActsOn.refl.complete _
    · exact (s.goWaking_actsOn x _ _ _).complete _
  · exact State.ActsOn.refl.complete _

/-- A line reset clears the count (R83, R101). -/
theorem State.resetLine_actsOn : State.ActsOn (some x) .clear s (s.resetLine x) := by
  rw [State.resetLine_eq]
  refine ⟨fun y apart => ?_, fun y own => .inr ?_⟩
  · have other : y ≠ x := fun same => apart (same ▸ rfl)
    rw [State.setEvents_line, State.setLine_line_other _ _ other, State.mapNodes_line,
      State.flushViews_line, (s.lineWork_endFrame x _ _).other y other]
  · obtain rfl := Option.some_inj.mp own
    rw [State.setEvents_line, State.setLine_line_same]
    rfl

theorem State.takeSupply_actsOn (d : Fin 64) :
    State.ActsOn (some x) m s (s.takeSupply x d) := by
  have refused := fun a => (State.ActsOn.refl (s := s) (o := some x) (m := m)).complete a
  unfold State.takeSupply
  dsimp only
  split
  · split
    · split
      · exact ((s.lineWork_setSeq x _).keepsCount (by simp)).complete _
      · exact refused _
    · exact refused _
  · exact refused _

/-- A request that joins or leaves the queue leaves the count (R111, R112). -/
theorem State.setQueue_actsOn (queue : List (Fin 64)) (d : Fin 64) (view : AdhocView) :
    State.ActsOn (some x) m s
      ((s.setLine x { s.line x with queue := queue }).setAdhoc d view) :=
  ((s.lineWork_setLine x _ (by rfl)).trans (State.lineWork_setAdhoc _ x d view)).keepsCount
    (by simp)

theorem State.takeEnqueue_actsOn (d : Fin 64) :
    State.ActsOn (some x) m s (s.takeEnqueue x d) := by
  unfold State.takeEnqueue
  split
  · exact State.ActsOn.refl.complete _
  · exact (s.setQueue_actsOn x _ d _).complete _

theorem State.takeCancel_actsOn (d : Fin 64) :
    State.ActsOn (some x) m s (s.takeCancel x d) := by
  unfold State.takeCancel
  dsimp only
  split
  · exact (s.setQueue_actsOn x _ d _).complete _
  · exact State.ActsOn.refl.complete _

end Commands

/-! ## Tables -/

section Tables

variable (s : State) {m : CountChange}

/-- The settings of a line are written, or the write is refused. -/
theorem State.setSettings_actsOn (x : LineId) (st : LineSettings) :
    State.ActsOn (some x) m s (s.setLine x { s.line x with settings := st }) where
  other y apart := s.setLine_line_other _ fun same => apart (same ▸ rfl)
  count y own := by
    obtain rfl := Option.some_inj.mp own
    rw [State.setLine_line_same]
    exact m.allows_self _

theorem State.commitPort_actsOn :
    State.ActsOn (Instr.lineOf s .commit) m s s.commitPort.1 := by
  unfold State.commitPort
  split
  · split
    case h_1 => exact .of_line_eq (s.commitDescriptor_line _ _)
    case h_2 => exact .of_line_eq (s.commitSlot_line _ _)
    case h_3 => exact .of_line_eq (s.commitDirectory_line _ _)
    case h_4 => exact .of_line_eq (s.commitNode_line _ _)
    case h_5 table =>
      simp only [Instr.lineOf, table, if_true, State.commitSettings]
      split
      · split
        · exact .refl
        · exact s.setSettings_actsOn _ _
      · exact .refl
    case h_6 => exact .refl
  · exact .refl

theorem State.eraseEntry_actsOn (table : TableId) (i : Nat) :
    State.ActsOn (Command.erase table i).line m s (s.eraseEntry table i).1 := by
  cases table with
  | descriptor => exact .of_line_eq (s.eraseDescriptor_line _)
  | slot => exact .of_line_eq (s.eraseSlot_line _)
  | directory => exact .of_line_eq (s.eraseDirectory_line _)
  | node => exact .of_line_eq (s.eraseNode_line _)
  | line =>
    simp only [Command.line, if_true, State.eraseEntry, State.eraseSettings]
    split
    · exact s.setSettings_actsOn _ _
    · exact .refl
  | adhoc => exact .refl

end Tables

/-! ## Rows -/

/-- Every row of the opcode table but POWER_ON_RESET acts on at most the line it concerns, and changes the
cycle count of that one at most as R83 has it. -/
theorem exec_actsOn {c : Instr} {s t : State} (ends : exec c s = .next t)
    (other : c ≠ .powerOnReset) : State.ActsOn (Instr.lineOf s c) (Instr.countChange c) s t := by
  cases c with
  | powerOnReset => exact absurd rfl other
  | start =>
    refine .of_next ends ?_
    split
    · next accepted => exact .command accepted (s.takeStart_actsOn _ _)
    · exact .refl
  | stopEnd =>
    refine .of_next ends ?_
    split
    · next accepted => exact .command accepted (s.takeStopEnd_actsOn _)
    · exact .refl
  | stopNow =>
    refine .of_next ends ?_
    split
    · next accepted => exact .command accepted (s.takeStopNow_actsOn _)
    · exact .refl
  | switch =>
    refine .of_next ends ?_
    split
    · next accepted => exact .command accepted (s.takeSwitch_actsOn _ _)
    · exact .refl
  | holdSet =>
    refine .of_next ends ?_
    split
    · next accepted => exact .command accepted ((s.holdSet_actsOn _).complete _)
    · exact .refl
  | holdClear =>
    refine .of_next ends ?_
    split
    · next accepted => exact .command accepted ((s.setHoldFlag_actsOn _ _).complete _)
    · exact .refl
  | wake =>
    refine .of_next ends ?_
    split
    · next accepted => exact .command accepted (s.takeWake_actsOn _)
    · exact .refl
  | clearFault =>
    refine .of_next ends ?_
    split
    · next accepted => exact .command accepted (s.takeClearFault_actsOn _)
    · exact .refl
  | lineReset =>
    refine .of_next ends ?_
    split
    · next accepted => exact .command accepted ((s.resetLine_actsOn _).complete _)
    · exact .refl
  | supply =>
    refine .of_next ends ?_
    split
    · next accepted => exact .command accepted (s.takeSupply_actsOn _ _)
    · exact .refl
  | enqueue =>
    refine .of_next ends ?_
    split
    · next accepted => exact .command accepted (s.takeEnqueue_actsOn _ _)
    · exact .refl
  | cancel =>
    refine .of_next ends ?_
    split
    · next accepted => exact .command accepted (s.takeCancel_actsOn _ _)
    · exact .refl
  | openPeek =>
    refine .of_next ends ?_
    split
    · exact State.SameTables.actsOn ⟨rfl, rfl, rfl, rfl, rfl, rfl⟩
    · exact .refl
  | openTake =>
    refine .of_next ends ?_
    split
    · exact (State.ActsOn.of_line_eq (s.takeFlags_line _ _)).then_same (s.sameTables_openTake _ _ _)
    · exact .refl
  | commit =>
    refine .of_next ends ?_
    split
    · exact s.commitPort_actsOn.complete _
    · exact .refl
  | erase =>
    refine .of_next ends ?_
    split
    · next accepted => exact .command accepted ((s.eraseEntry_actsOn _ _).complete _)
    · exact .refl
  | pop value | intEnableWrite value | kindMaskWrite value =>
    exact .of_next ends (State.sameTables_busWrite (s.sameTables_setEvents _)).actsOn
  | portPointerWrite value =>
    exact .of_next ends (State.sameTables_busWrite (s.sameTables_writePointer value)).actsOn
  | portDataRead => exact .of_next ends s.sameTables_readPortData.actsOn
  | portDataWrite value =>
    exact .of_next ends (State.sameTables_busWrite (s.sameTables_writePortData value)).actsOn
  | portStateWrite value =>
    exact .of_next ends (State.sameTables_busWrite s.sameTables_closePort).actsOn
  | registerWrite address value =>
    exact .of_next ends (State.sameTables_busWrite (s.sameTables_writeRegister address value)).actsOn
  | cmdWrite value =>
    exact .of_next ends (State.sameTables_busWrite (s.sameTables_setHost _)).actsOn
  | resetnRelease =>
    exact .of_next ends (State.SameTables.actsOn ⟨rfl, rfl, rfl, rfl, rfl, rfl⟩)
  | postTaken path => exact .of_next ends (s.sameTables_setEvents _).actsOn
  | resetRecordsPosted x => exact .of_next ends (s.sameTables_setEvents _).actsOn
  | holdPinLevelChange x => exact .of_next ends (s.levelChanges_actsOn x)
  | slotEnd x => exact .of_next ends (s.slotEnds_actsOn x)
  | recoveryEnd x => exact .of_next ends (s.recoveryEnds_actsOn x)
  | alertEnd x => exact .of_next ends (s.alertEnds_actsOn x)
  | markEnd x => exact .of_next ends (s.markEnds_actsOn x)
  | controlEnd x => exact .of_next ends (s.controlEnds_actsOn x)
  | readback x bit samples => exact .of_next ends (s.compareBit_actsOn x bit samples)
  | replyCharacter x first second third => exact .of_next ends (s.character_actsOn x _)
  | replySpaceEnd x => exact .of_next ends (s.replySpaceEnds_actsOn x)
  | replyGapEnd x => exact .of_next ends (s.replyGapEnds_actsOn x)
  | checkCompare x => exact .of_next ends (s.compareCheck_actsOn x)
  | supplyWindowEnd x => exact .of_next ends (s.windowEnds_actsOn x)
  | pushSpaceEnd x => exact .of_next ends (s.pushSpaceEnds_actsOn x)
  | pushEnd x => exact .of_next ends (s.pushEnds_actsOn x)
  | stuckLineReport x => exact .of_next ends (s.reportStuck_actsOn x)
  | remoteWake x => exact .of_next ends (s.wakeRemotely_actsOn x)
  | wakePulseEnd x => exact .of_next ends (s.pulseEnds_actsOn x)
  | replyStartBit x edge samples => exact .of_next ends (s.startBit_actsOn x edge samples)
  | bitTimeJudged x samples => exact .of_next ends (s.judgeBit_actsOn x samples)
  | holdPinSample x reading => exact .of_next ends (s.samplePin_actsOn x reading)

/-- Settles O54: every row acts on at most the line it concerns. -/
theorem theOtherLineIsUntouched : Obligations.TheOtherLineIsUntouched :=
  fun _ _ _ x ends other apart => (exec_actsOn ends other).other x apart

/-- What a row may do to the cycle count of any line (R83). -/
theorem exec_cycleCount {c : Instr} {s t : State} (ends : exec c s = .next t)
    (other : c ≠ .powerOnReset) (x : LineId) :
    (t.line x).cycleCount = (s.line x).cycleCount ∨
      Instr.lineOf s c = some x ∧
        (Instr.countChange c).Allows (s.line x).cycleCount (t.line x).cycleCount := by
  have acts := exec_actsOn ends other
  by_cases own : Instr.lineOf s c = some x
  · exact .inr ⟨own, acts.count x own⟩
  · exact .inl (congrArg LineController.cycleCount (acts.other x own))

/-- Settles O25: a row changes the count of its own line alone, and as `countChange` allows it. -/
theorem cycleCountChangesOnlyWhereStated : Obligations.CycleCountChangesOnlyWhereStated := by
  intro c s t x ends
  refine ⟨?_, ?_, ?_, fun other slotEnd recoveryEnd start lineReset holdClear levelChange => ?_⟩
  · rintro rfl
    cases ends
    cases x <;> rfl
  · rintro (rfl | rfl) <;> exact (exec_cycleCount ends nofun x).elim .inl And.right
  · rintro (rfl | rfl | rfl | rfl) <;> exact (exec_cycleCount ends nofun x).elim .inl And.right
  · refine (exec_cycleCount ends other x).elim id fun ⟨own, allowed⟩ => ?_
    cases c with
    | start | lineReset | holdClear => contradiction
    | slotEnd y | recoveryEnd y | holdPinLevelChange y =>
      obtain rfl := Option.some_inj.mp own
      contradiction
    | _ => exact allowed

end Sys2Proof.Machine
end

-- ==== Proofs: deferred pushes and ad-hoc requests ====
section
/-! The service of an OPEN slot (R114, R117), SUPPLY (R30, R105, R106), and ENQUEUE and CANCEL (R111, R112)
with the lock of their descriptor (R42). -/

namespace Sys2Proof.Machine

/-! ## The ad-hoc view of a descriptor -/

theorem State.setLine_setAdhoc (s : State) (x : LineId) (l : LineController) (d : Fin 64)
    (v : AdhocView) : (s.setLine x l).setAdhoc d v = (s.setAdhoc d v).setLine x l := by
  cases x <;> rfl

@[simp] theorem State.setAdhoc_desc_same (s : State) (d : Fin 64) (v : AdhocView) :
    (s.setAdhoc d v).desc d = { s.desc d with adhoc := v } := by
  rw [State.setAdhoc_desc, if_pos rfl]

theorem State.flushViews_posted (s : State) (p : Poster) (records : List Post)
    (queue : List (Fin 64)) :
    (s.posted p records).flushViews queue = (s.flushViews queue).posted p records := by
  induction queue generalizing s with
  | nil => rfl
  | cons d rest ih => exact ih (s.setAdhoc d .none)

/-- The frame of a descriptor does not depend on its ad-hoc state (R19). -/
theorem Sequencer.beginDescriptor_adhoc (q : Sequencer) (source : FrameSource) (d : Fin 64)
    (v : Descriptor) (view : AdhocView) :
    q.beginDescriptor source d { v with adhoc := view } = q.beginDescriptor source d v := rfl

/-! ## The service of an OPEN slot -/

section Service

/-- Whether a request fits an OPEN slot of its line (R16, R114). -/
def State.requestFits (s : State) (x : LineId) (slotLength : Nat) (d : Fin 64) : Bool :=
  fits (s.line x).settings (frameKindOf (s.desc d).config) (s.desc d).config.length slotLength

/-- The requests that leave the queue of `x` with NO_FIT: their ad-hoc states become NONE, and each is
reported (R114, R117). -/
def State.skipRequests (s : State) (x : LineId) (skipped : List (Fin 64)) : State :=
  (s.flushViews skipped).posted (.lineController x)
    (skipped.map fun d => adhocEndRecord x d 0x0A (s.line x).cycleCount)

@[simp] theorem State.skipRequests_line (s : State) (x y : LineId) (skipped : List (Fin 64)) :
    (s.skipRequests x skipped).line y = s.line y := by
  simp [State.skipRequests]

@[simp] theorem State.skipRequests_desc (s : State) (x : LineId) (skipped : List (Fin 64))
    (d : Fin 64) :
    (s.skipRequests x skipped).desc d =
      { s.desc d with adhoc := if d ∈ skipped then .none else (s.desc d).adhoc } := by
  simp [State.skipRequests, State.flushViews_desc]

/-- Beyond the ad-hoc states, requests that leave change only what the reports change. -/
theorem State.skipRequests_eq (s : State) (x : LineId) (skipped : List (Fin 64)) :
    s.skipRequests x skipped =
      { s.posted (.lineController x)
          (skipped.map fun d => adhocEndRecord x d 0x0A (s.line x).cycleCount) with
        descriptors := (s.flushViews skipped).descriptors } := by
  unfold State.skipRequests
  rw [s.flushViews_eq skipped]
  rfl

theorem State.skipRequests_cons (s : State) (x : LineId) (d : Fin 64) (skipped : List (Fin 64)) :
    (s.skipRequests x [d]).skipRequests x skipped = s.skipRequests x (d :: skipped) := by
  simp only [State.skipRequests, State.flushViews_posted, State.posted_posted, State.posted_line,
    State.flushViews_line]
  rfl

@[simp] theorem State.skipRequests_requestFits (s : State) (x y : LineId) (skipped : List (Fin 64))
    (slotLength : Nat) :
    (s.skipRequests x skipped).requestFits y slotLength = s.requestFits y slotLength := by
  funext d
  simp [State.requestFits]

variable {s : State} {x : LineId} {slotLength : Nat} {d : Fin 64} {rest : List (Fin 64)}

/-- The service writes the queue and does not read it: it is told the requests. -/
theorem State.serve_setQueue (queue requests : List (Fin 64)) :
    (s.setLine x { s.line x with queue := queue }).serve x slotLength requests =
      s.serve x slotLength requests := by
  cases requests <;> simp [State.serve]

/-- A request at the head that fits becomes the in-flight request, and its frame starts (R114). -/
theorem State.serve_of_fits (fit : s.requestFits x slotLength d = true) :
    s.serve x slotLength (d :: rest) =
      (s.setAdhoc d .inFlight).setLine x
        { s.line x with
          queue := rest, inFlight := some d,
          seq := (s.line x).seq.beginDescriptor .adHoc d (s.desc d) } := by
  refine (if_pos fit).trans ?_
  simp [State.startFrame, State.setSeq, State.setLine_setAdhoc, Sequencer.beginDescriptor_adhoc]

/-- A request at the head that does not fit leaves with NO_FIT, and the service goes on (R114). -/
theorem State.serve_of_not_fits (noFit : s.requestFits x slotLength d = false) :
    s.serve x slotLength (d :: rest) = (s.skipRequests x [d]).serve x slotLength rest := by
  refine (if_neg (Bool.eq_false_iff.mp noFit)).trans ?_
  rw [← State.serve_setQueue (s := s.skipRequests x [d]) rest]
  simp only [State.postLine_eq, State.setLine_setAdhoc, State.setLine_line_same,
    State.skipRequests_line]
  rw [← State.posted_setLine]
  rfl

/-- Requests from the head that do not fit leave with NO_FIT, in queue order (R114, R117). -/
theorem State.serve_append (skipped : List (Fin 64))
    (noFit : ∀ d ∈ skipped, s.requestFits x slotLength d = false) :
    s.serve x slotLength (skipped ++ rest) =
      (s.skipRequests x skipped).serve x slotLength rest := by
  induction skipped generalizing s with
  | nil => rw [State.skipRequests, List.map_nil, State.posted_nil]; rfl
  | cons d skipped ih =>
    obtain ⟨head, tail⟩ := List.forall_mem_cons.mp noFit
    rw [List.cons_append, State.serve_of_not_fits head, ih (by simpa using tail),
      State.skipRequests_cons]

end Service

/-- A queue splits at the first request that fits. -/
theorem exists_split_at_first_fit (fit : Fin 64 → Bool) (queue : List (Fin 64)) :
    ∃ skipped rest, queue = skipped ++ rest ∧ (∀ d ∈ skipped, fit d = false) ∧
      ∀ d ∈ rest.head?, fit d = true := by
  refine ⟨queue.takeWhile (!fit ·), queue.dropWhile (!fit ·), List.takeWhile_append_dropWhile.symm,
    fun d skipped => by simpa using List.mem_takeWhile_imp skipped, fun d head => ?_⟩
  have stops := List.head?_dropWhile_not (!fit ·) queue
  rw [Option.mem_def.mp head] at stops
  simpa using stops

/-- Settles O22: the requests ahead of the first that fits leave as `skipRequests` says, and the service of
the rest takes one request or none. -/
theorem openSlotService : Obligations.OpenSlotService := by
  intro s x slotLength
  obtain ⟨skipped, rest, split, noFit, fit⟩ :=
    exists_split_at_first_fit (s.requestFits x slotLength) (s.line x).queue
  refine ⟨skipped, rest, split, noFit, fit, ?_⟩
  rw [split, State.serve_append skipped noFit]
  cases rest with
  | nil =>
    refine ⟨?_, fun y other => ?_, fun d => ?_, ?_⟩
    · simp [State.serve]
    · simp [State.serve, State.setLine_line, other]
    · simp [State.serve]
    · simp [State.serve, State.skipRequests_eq]
  | cons d rest =>
    rw [State.serve_of_fits (by simpa using fit d rfl)]
    refine ⟨?_, fun y other => ?_, fun e => ?_, ?_⟩
    · simp [Sequencer.beginDescriptor_adhoc]
    · simp [State.setLine_line, other]
    · simp only [State.setLine_desc, State.setAdhoc_desc, State.skipRequests_desc, List.head?_cons,
        Option.some_inj]
      split <;> rfl
    · simp [State.skipRequests_eq]

/-! ## The taking of a command -/

section Taken

variable {s : State} {x : LineId} {d : Fin 64}

theorem exec_supply (accepted : s.accepted = some (.supply x d)) :
    exec .supply s = .next (s.takeSupply x d) := by
  simp only [exec, execSupply, accepted]

theorem exec_enqueue (accepted : s.accepted = some (.enqueue x d)) :
    exec .enqueue s = .next (s.takeEnqueue x d) := by
  simp only [exec, execEnqueue, accepted]

theorem exec_cancel (accepted : s.accepted = some (.cancel x d)) :
    exec .cancel s = .next (s.takeCancel x d) := by
  simp only [exec, execCancel, accepted]

end Taken

/-! ## SUPPLY -/

section Supply

variable {s : State} {x : LineId} {d : Fin 64}

/-- SUPPLY for the outstanding request is answered DONE (R105, row 1). -/
theorem State.takeSupply_outstanding (wait : (s.line x).seq.frameState = .supplyWait)
    (request : (s.line x).seq.supplyRequest = some d) :
    s.takeSupply x d =
      (s.setSeq x ((s.line x).seq.supplied (s.line x).settings (s.desc d) (s.line x).elapsed)).complete
        .done := by
  simp only [State.takeSupply, wait, request, if_true]

/-- SUPPLY while another request is outstanding names that request (R105, row 2). -/
theorem State.takeSupply_other {e : Fin 64} (wait : (s.line x).seq.frameState = .supplyWait)
    (request : (s.line x).seq.supplyRequest = some e) (other : e ≠ d) :
    s.takeSupply x d = s.complete { result := .notWaiting, detail := BitVec.ofNat 8 e.val } := by
  simp only [State.takeSupply, wait, request, other, if_true, if_false]

/-- SUPPLY without an outstanding request is refused (R105, rows 3 and 4). -/
theorem State.takeSupply_refused
    (unasked : (s.line x).seq.frameState ≠ .supplyWait ∨ (s.line x).seq.supplyRequest = none) :
    s.takeSupply x d = s.complete (s.supplyRefusal x d) := by
  unfold State.takeSupply
  rcases unasked with busy | none
  · exact if_neg busy
  · simp only [none, ite_self]

end Supply

theorem overlay_take_length {n k : Nat} {bytes : List Byte} (buffer : Vector Byte n)
    (size : bytes.length = k) (room : k ≤ n) : (overlay bytes buffer).toList.take k = bytes :=
  (overlay_take bytes buffer k size.ge (by omega)).trans (List.take_of_length_le size.le)

theorem Sequencer.supplied_txBuffer {q : Sequencer} (st : LineSettings) (v : Descriptor)
    (elapsed : Nat) {length : Nat} (isLength : q.length = some length) :
    (q.supplied st v elapsed).txBuffer =
      overlay (q.txBuffer.toList.take 2 ++ messageBytes v length
        ++ [crcFrom q.runningCheck (messageBytes v length)]) q.txBuffer := by
  simp only [Sequencer.supplied, isLength, Option.getD_some]
  split <;> rfl

/-- The header, the data and their check stand at the front of the transmit buffer (R106). -/
theorem Sequencer.supplied_bytes {q : Sequencer} (st : LineSettings) (v : Descriptor) (elapsed : Nat)
    {length : Nat} (isLength : q.length = some length) (short : length ≤ 12) :
    (q.supplied st v elapsed).txBuffer.toList.take (length + 3) =
      q.txBuffer.toList.take 2 ++ messageBytes v length
        ++ [crcFrom q.runningCheck (messageBytes v length)] := by
  rw [Sequencer.supplied_txBuffer st v elapsed isLength]
  refine overlay_take_length _ ?_ (by omega)
  simp only [List.length_append, List.length_take, Vector.length_toList, List.length_singleton,
    messageBytes_length v short]
  omega

/-- Settles O33: the rows of `takeSupply` in order; PUSH begins where the push space has passed. -/
theorem supplyCommand : Obligations.SupplyCommand := by
  intro s x d accepted
  rw [exec_supply accepted]
  refine ⟨fun control length wait request isControl isLength short => ?_,
    fun e wait request other => congrArg _ (State.takeSupply_other wait request other),
    fun refused => ?_⟩
  · have bytes := Sequencer.supplied_bytes (s.line x).settings (s.desc d) (s.line x).elapsed isLength
      short
    refine ⟨_, congrArg _ (State.takeSupply_outstanding wait request), bytes, ?_⟩
    simp only [Sequencer.supplied, isControl, isLength, Option.getD_some]
    split
    · next passed => simp [passed, messageBytes]
    · next waits => simp [waits, messageBytes]
  · rw [State.takeSupply_refused refused, State.supplyRefusal]
    refine ⟨fun late => ?_, fun other => ?_⟩
    · rw [if_pos late]; rfl
    · rw [if_neg other]

/-! ## ENQUEUE and CANCEL -/

section Enqueue

variable {s : State} {x : LineId} {d : Fin 64}

theorem exec_enqueue_refused {a : Answer} (accepted : s.accepted = some (.enqueue x d))
    (fails : s.enqueueRefusal x d = some a) : exec .enqueue s = .next (s.complete a) := by
  simp only [exec_enqueue accepted, State.takeEnqueue, fails]

theorem exec_enqueue_passed (accepted : s.accepted = some (.enqueue x d))
    (passes : s.enqueueRefusal x d = none) :
    exec .enqueue s = .next ((s.enqueued x d).complete
      { result := .done, detail := BitVec.ofNat 8 ((s.line x).queue.length + 1) }) := by
  simp only [exec_enqueue accepted, State.takeEnqueue, passes]
  rfl

end Enqueue

/-- Settles O40: the checks of `enqueueRefusal` in order; a descriptor that is QUEUED is locked. -/
theorem enqueueCommand : Obligations.EnqueueCommand := by
  intro s x d accepted
  have refused {a : Answer} := exec_enqueue_refused (a := a) accepted
  refine ⟨fun unused => refused ?_, fun used away => refused ?_, fun used here queued => refused ?_,
    fun used here unqueued flies => refused ?_,
    fun used here unqueued grounded full => refused ?_,
    fun used here unqueued grounded room =>
      ⟨_, exec_enqueue_passed accepted ?_, ?_, (State.descriptorLocked_iff _ d).mpr (.inr ?_)⟩⟩
  · simp [State.enqueueRefusal, unused]
  · simp [State.enqueueRefusal, used, away]
  · simp [State.enqueueRefusal, used, here, queued]
  · simp [State.enqueueRefusal, used, here, unqueued, flies]
  · simp [State.enqueueRefusal, used, here, unqueued, grounded, full, Config.adhocCapacity]
  · simp [State.enqueueRefusal, used, here, unqueued, grounded, room.not_ge, Config.adhocCapacity]
  · simp only [State.enqueued, State.setAdhoc, State.setLine_desc]
  · simp [State.enqueued]

theorem State.takeCancel_queued {s : State} {x : LineId} {d : Fin 64}
    (queued : d ∈ (s.line x).queue) :
    s.takeCancel x d = (s.cancelled x d).complete
      { result := .done, detail := BitVec.ofNat 8 ((s.line x).queue.erase d).length } :=
  if_pos queued

/-- Settles O41: `erase` takes the first occurrence out; the lock that is left is the closure's. -/
theorem cancelCommand : Obligations.CancelCommand := by
  intro s x d accepted
  rw [exec_cancel accepted]
  refine ⟨fun ahead behind queue first => ?_, fun unqueued flies => ?_, fun unqueued grounded => ?_⟩
  · have queued : d ∈ (s.line x).queue := by simp [queue]
    have erased : (s.line x).queue.erase d = ahead ++ behind := by
      rw [queue, List.erase_append_right _ first, List.erase_cons_head]
    refine ⟨_, congrArg _ (State.takeCancel_queued queued), ?_, ?_⟩
    · simp only [State.cancelled, erased, List.length_append, State.setAdhoc, State.setLine_desc]
    · simp [State.descriptorLocked, State.adhocHeld, State.cancelled]
  · simp only [State.takeCancel, unqueued, flies, if_true, if_false]
  · simp only [State.takeCancel, unqueued, grounded, if_false]

end Sys2Proof.Machine
end

-- ==== Proofs: sleep, wake and line faults ====
section
/-! WAKE and CLEAR_FAULT (R122, R127, R133), the judgement of a bit time (R122, R126 to R128), the
stuck-line report (R130, R131), the remote wake (R126) and the end of a wake pulse (R127, R128). -/

namespace Sys2Proof.Machine

/-! ## WAKE and CLEAR_FAULT -/

section Commands

variable {s : State} {x : LineId}

theorem exec_wake (accepted : s.accepted = some (.wake x)) :
    exec .wake s = .next (s.takeWake x) := by
  simp only [exec, execWake, accepted]

theorem exec_clearFault (accepted : s.accepted = some (.clearFault x)) :
    exec .clearFault s = .next (s.takeClearFault x) := by
  simp only [exec, execClearFault, accepted]

theorem State.takeWake_refused (awake : (s.line x).lineState ≠ .asleep) :
    s.takeWake x = s.complete .wrongState := if_neg awake

theorem State.takeClearFault_refused (sound : (s.line x).lineState ≠ .fault) :
    s.takeClearFault x = s.complete .wrongState := if_neg sound

/-- A line that goes to WAKING by a command has its origin at the present instant (R127, R133). -/
theorem State.goWaking_setOrigin (s : State) (x : LineId) (t : Nat) (m : Monitor) (cause : Cause) :
    (s.setLine x ((s.line x).setOrigin t)).goWaking x m cause =
      (s.setLine x
        { s.line x with
          lineState := .waking, slotStart := some t, bitsJudged := 0, bitsSampled := 0,
          monitor := m }).posted (.lineController x)
        [lineChangeRecord x .waking cause 0xFF (s.line x).cycleCount] := by
  simp only [State.goWaking_eq, State.setLine_line_same, State.setLine_setLine]
  rfl

/-- WAKE on a sleeping line (R127). -/
theorem State.takeWake_asleep (asleep : (s.line x).lineState = .asleep) :
    s.takeWake x =
      ((s.setLine x ((s.line x).setOrigin (s.line x).time)).goWaking x
        { (s.line x).monitor with
          qualifyCount := none, wakePhase := .pulse,
          pulseCount := (s.line x).settings.wakePulse } .command).complete .done := if_pos asleep

/-- CLEAR_FAULT while the wire is low (R133). -/
theorem State.takeClearFault_low (fault : (s.line x).lineState = .fault)
    (low : 0 < (s.line x).monitor.runCount) :
    s.takeClearFault x =
      s.complete { result := .lineLow, detail := BitVec.ofNat 8 (s.line x).monitor.runCount } :=
  (if_pos fault).trans (if_pos low)

/-- CLEAR_FAULT while the wire is high (R133). -/
theorem State.takeClearFault_high (fault : (s.line x).lineState = .fault)
    (high : (s.line x).monitor.runCount = 0) :
    s.takeClearFault x =
      ((s.setLine x ((s.line x).setOrigin (s.line x).time)).goWaking x
        { (s.line x).monitor with wakePhase := .recovery, recoveryCount := 0 } .command).complete
          .done :=
  (if_pos fault).trans (if_neg (Nat.not_lt.mpr high.le))

end Commands

/-- Settles O18: both commands by line state; a line in its wake pulse drives the pin. -/
theorem wakeAndClearFaultCommands : Obligations.WakeAndClearFaultCommands := by
  refine ⟨fun s x accepted => ?_, fun s x accepted => ?_⟩
  · rw [exec_wake accepted]
    refine ⟨fun awake => congrArg _ (State.takeWake_refused awake), fun asleep => ?_⟩
    rw [State.takeWake_asleep asleep, State.goWaking_setOrigin]
    refine ⟨_, rfl, LineController.pin_of_pulse ?_, rfl⟩
    rw [State.complete_line, State.posted_line, State.setLine_line_same]
  · rw [exec_clearFault accepted]
    refine ⟨fun sound => congrArg _ (State.takeClearFault_refused sound),
      fun fault low => congrArg _ (State.takeClearFault_low fault low), fun fault high => ?_⟩
    rw [State.takeClearFault_high fault high, State.goWaking_setOrigin]
    rfl

/-! ## A judged bit time -/

section Judged

variable (m : Monitor) (st : LineSettings) (lineState : LineState) (level : Level)

/-- The fields of the monitor that no judgement writes (R122). -/
theorem Monitor.judged_kept :
    (m.judged st lineState level).active = m.active ∧
      (m.judged st lineState level).wakePhase = m.wakePhase ∧
      (m.judged st lineState level).pulseCount = m.pulseCount := by
  cases level <;> exact ⟨rfl, rfl, rfl⟩

/-- A dominant bit time lengthens the run and leaves the report (R122). -/
theorem Monitor.judged_dominant :
    (m.judged st lineState .dominant).runCount = min 255 (m.runCount + 1) ∧
      (m.judged st lineState .dominant).stuckReported = m.stuckReported := ⟨rfl, rfl⟩

/-- A recessive bit time ends the run and its report (R122). -/
theorem Monitor.judged_recessive :
    (m.judged st lineState .recessive).runCount = 0 ∧
      (m.judged st lineState .recessive).stuckReported = false := ⟨rfl, rfl⟩

/-- Only in ASLEEP does a bit time count towards a remote wake (R126). -/
theorem Monitor.judged_qualifyCount :
    (m.judged st lineState level).qualifyCount =
      if lineState = .asleep then nextQualify st.wakeQualify m.qualifyCount level
      else m.qualifyCount := rfl

/-- In RECOVERY a dominant bit time starts the count again, and it stops at R (R128). -/
theorem Monitor.judged_recoveryCount :
    (m.judged st lineState level).recoveryCount =
      if lineState = .waking ∧ m.wakePhase = .recovery then
        if level = .dominant then 0 else min st.recovery (m.recoveryCount + 1)
      else m.recoveryCount := by
  cases level <;> rfl

end Judged

/-- The judgement of the next bit time, as the new controller of the line (R122, R127). -/
theorem State.judgeBit_active {s : State} {x : LineId} (samples : Samples)
    (active : (s.line x).monitor.active = true) :
    let l := s.line x
    let bit := max l.bitsJudged (l.elapsed / l.settings.divisor)
    let l' := l.reach (bit * l.settings.divisor + 9 * l.settings.divisor / 16)
    s.judgeBit x samples =
      s.setLine x
        { l' with
          bitsJudged := bit + 1,
          monitor :=
            Monitor.judged
              { l.monitor with
                pulseCount :=
                  if l.monitor.wakePhase = .pulse then l.settings.wakePulse - l'.elapsedBits
                  else l.monitor.pulseCount }
              l.settings l.lineState (majority samples) } := by
  intro l bit l'
  have judged : s.judgeBit x samples =
      s.setLine x
        { l'.countPulse with
          bitsJudged := bit + 1,
          monitor := l'.countPulse.monitor.judged l.settings l.lineState (majority samples) } :=
    if_pos active
  rw [judged, LineController.countPulse_eq]
  rfl

/-- An inactive monitor judges nothing (R122). -/
theorem State.judgeBit_inactive {s : State} {x : LineId} (samples : Samples)
    (inactive : (s.line x).monitor.active = false) : s.judgeBit x samples = s := by
  simp only [State.judgeBit, inactive, Bool.false_eq_true, if_false]

/-- Settles O36: the clock's part is that of `reach`, the monitor's that of `Monitor.judged`. -/
theorem bitTimeJudged : Obligations.BitTimeJudged := by
  intro s x samples l m bit
  refine ⟨fun inactive => congrArg Host.Outcome.next (State.judgeBit_inactive samples inactive),
    fun active => ⟨_, congrArg Host.Outcome.next (State.judgeBit_active samples active), ?_⟩⟩
  rw [State.setLine_line_same]
  obtain ⟨stays, phase, pulse⟩ := Monitor.judged_kept _ _ _ _
  refine ⟨rfl, rfl, pulse, stays.trans active, phase, fun dominant => ?_, fun recessive => ?_,
    fun asleep => ?_, fun awake => ?_, fun waking recovery => ?_, fun settled => ?_⟩
  · rw [dominant]
    exact Monitor.judged_dominant _ _ _
  · rw [recessive]
    exact Monitor.judged_recessive _ _ _
  · exact (Monitor.judged_qualifyCount ..).trans (if_pos asleep)
  · exact (Monitor.judged_qualifyCount ..).trans (if_neg awake)
  · exact (Monitor.judged_recoveryCount ..).trans (if_pos ⟨waking, recovery⟩)
  · exact (Monitor.judged_recoveryCount ..).trans (if_neg settled)

/-! ## The stuck-line report -/

/-- Which frame is in flight on a line is read from its sequencer alone (R17, R18). -/
theorem State.DescriptorFrame.of_seq {s t : State} {x : LineId} {d : Fin 64} {source : FrameSource}
    {kind : FrameKind} (frame : s.DescriptorFrame x d source kind)
    (seq : (t.line x).seq = (s.line x).seq) : t.DescriptorFrame x d source kind := by
  unfold State.DescriptorFrame
  rwa [seq]

theorem State.HushFrame.of_seq {s t : State} {x : LineId} (frame : s.HushFrame x)
    (seq : (t.line x).seq = (s.line x).seq) : t.HushFrame x := by
  unfold State.HushFrame
  rwa [seq]

theorem LineController.stuckDue_iff (l : LineController) :
    l.stuckDue = true ↔ l.monitor.active = true ∧ l.monitor.stuckReported = false ∧
      l.settings.stuckLimit ≤ l.monitor.runCount := by
  simp [LineController.stuckDue, and_assoc]

/-- The state in which the dominant run of a line has been reported (R130). -/
def State.stuckNoted (s : State) (x : LineId) : State :=
  s.setMonitor x { (s.line x).monitor with stuckReported := true }

section Stuck

variable {s : State} {x : LineId}

theorem State.stuckNoted_seq : ((s.stuckNoted x).line x).seq = (s.line x).seq := by
  rw [State.stuckNoted, State.setMonitor_line_same]

theorem State.stuckNoted_time : ((s.stuckNoted x).line x).time = (s.line x).time := by
  rw [State.stuckNoted, State.setMonitor_line_same]

theorem State.reportStuck_due (due : (s.line x).stuckDue = true) :
    s.reportStuck x =
      if (s.line x).lineState = .fault then s.stuckNoted x
      else ((s.stuckNoted x).endFrame x .lineStuck []).enterFault x := if_pos due

end Stuck

/-- Settles O37: the report is noted, and outside FAULT the frame in flight ends and the line enters FAULT. -/
theorem stuckLineReport : Obligations.StuckLineReport := by
  intro s x active unreported limit s'
  have reports := State.reportStuck_due ((s.line x).stuckDue_iff.mpr ⟨active, unreported, limit⟩)
  have noted : s.stuckNoted x = s' := rfl
  have seq : (s'.line x).seq = (s.line x).seq := State.stuckNoted_seq
  have time : (s'.line x).time = (s.line x).time := State.stuckNoted_time
  rw [noted] at reports
  refine ⟨fun fault => congrArg Host.Outcome.next (reports.trans (if_pos fault)), fun sound => ?_⟩
  refine ⟨s'.endFrame x .lineStuck [], _,
    congrArg Host.Outcome.next (reports.trans (if_neg sound)),
    fun idle => s'.endFrame_idle x _ _ (seq ▸ idle),
    fun d source kind frame => s'.endFrame_ended_now x d source kind _ _ (frame.of_seq seq),
    fun frame => s'.endFrame_hush_now x _ _ (frame.of_seq seq),
    (s'.endFrame_time x _ _).trans time, State.enterFault_eq _ x⟩

/-! ## The remote wake and the end of a wake pulse -/

/-- A line between frames that is in no wake pulse is released (R1, R127). -/
theorem LineController.pin_released {l : LineController} (quiet : l.monitor.wakePhase ≠ .pulse)
    (idle : l.seq.frameState = .idle) : l.pin = .recessive := by
  rw [LineController.pin_of_no_pulse quiet, drivenLevel, idle]

section Wake

variable {s : State} {x : LineId}

theorem State.wakeRemotely_qualified (asleep : (s.line x).lineState = .asleep)
    (qualified : (s.line x).monitor.qualifyCount = some 0) :
    s.wakeRemotely x =
      s.goWaking x
        { (s.line x).monitor with
          qualifyCount := none, wakePhase := .recovery, recoveryCount := 0 } .remote :=
  if_pos ⟨asleep, qualified⟩

/-- The end of the wake pulse, as the new controller of the line (R127, R128). -/
theorem State.pulseEnds_eq (waking : (s.line x).lineState = .waking)
    (pulse : (s.line x).monitor.wakePhase = .pulse) (idle : (s.line x).seq.frameState = .idle) :
    s.pulseEnds x =
      s.setLine x
        { s.line x with
          time := max (s.line x).time ((s.line x).slotStart.getD (s.line x).time
            + (s.line x).settings.wakePulse * (s.line x).settings.divisor),
          monitor :=
            { (s.line x).monitor with
              wakePhase := .recovery, pulseCount := 0, recoveryCount := 0 } } := by
  simp only [State.pulseEnds, waking, pulse, and_self, if_true, State.reach, State.setMonitor,
    State.setLine_line_same, State.setLine_setLine, LineController.reach_idle _ _ idle]

end Wake

/-- Settles O38: both events leave a line in RECOVERY, which drives no pulse. -/
theorem remoteWakeAndPulseEnd : Obligations.RemoteWakeAndPulseEnd := by
  refine ⟨fun s x asleep qualified => ?_, fun s x waking pulse idle => ?_⟩
  · have wakes := (State.wakeRemotely_qualified asleep qualified).trans (State.goWaking_eq ..)
    refine ⟨_, congrArg Host.Outcome.next wakes, fun idle => ?_, rfl⟩
    rw [State.posted_line, State.setLine_line_same]
    exact LineController.pin_released nofun idle
  · refine ⟨_, congrArg Host.Outcome.next (State.pulseEnds_eq waking pulse idle), ?_, rfl⟩
    rw [State.setLine_line_same]
    exact LineController.pin_released nofun idle

end Sys2Proof.Machine
end

-- ==== Proofs: reports to a node ====
section
/-! A node after a report of a poll (R137 to R140). -/

namespace Sys2Proof.Machine

/-! ## Counters -/

/-- The misses have reached the node's threshold (R140, step 1). -/
def Node.Missed (n : Node) : Prop := n.config.missThreshold ≤ n.misses

/-- The score has reached the node's threshold, or has not come down to 0 since it did (R140, step 2). -/
def Node.Garbled (n : Node) : Prop :=
  n.config.errorThreshold ≤ n.score ∨ (n.state = .erratic ∧ 0 < n.score)

section Counters

variable (n : Node) (o : FrameOutcome)

/-- Counting leaves the state to the evaluation that follows it (R139, R140). -/
@[simp] theorem Node.counted_state : (n.counted o).state = n.state := by cases o <;> rfl

@[simp] theorem Node.counted_config : (n.counted o).config = n.config := by cases o <;> rfl

variable {n o}

theorem Node.counted_misses_le (bound : n.misses ≤ 255) : (n.counted o).misses ≤ 255 := by
  cases o
  case noReply => exact Nat.min_le_left _ _
  case ok | shortReply | crcFail | framing => exact Nat.zero_le _
  all_goals exact bound

theorem Node.counted_score_le (bound : n.score ≤ 31) : (n.counted o).score ≤ 31 := by
  cases o
  case ok => exact (Nat.sub_le _ _).trans bound
  case shortReply | crcFail | framing => exact Nat.min_le_left _ _
  all_goals exact bound

end Counters

/-! ## The four steps of the evaluation -/

section Evaluation

variable {n : Node} {o : FrameOutcome}

theorem Node.evaluated_of_missed (missed : n.Missed) : n.evaluated o = .missing := if_pos missed

theorem Node.evaluated_of_garbled (heard : ¬ n.Missed) (garbled : n.Garbled) :
    n.evaluated o = .erratic := (if_neg heard).trans (if_pos garbled)

theorem Node.evaluated_of_noReply (heard : ¬ n.Missed) (clear : ¬ n.Garbled) :
    n.evaluated .noReply = n.state := ((if_neg heard).trans (if_neg clear)).trans (if_pos rfl)

theorem Node.evaluated_of_reply (heard : ¬ n.Missed) (clear : ¬ n.Garbled) (reply : o ≠ .noReply) :
    n.evaluated o = .present := ((if_neg heard).trans (if_neg clear)).trans (if_neg reply)

/-- An evaluation never takes a node out of use: step 3 keeps a state, the others set one in use (R140). -/
theorem Node.evaluated_ne_unused (used : n.state ≠ .unused) : n.evaluated o ≠ .unused := by
  by_cases missed : n.Missed
  · simp [Node.evaluated_of_missed missed]
  by_cases garbled : n.Garbled
  · simp [Node.evaluated_of_garbled missed garbled]
  by_cases silent : o = .noReply
  · rwa [silent, Node.evaluated_of_noReply missed garbled]
  · simp [Node.evaluated_of_reply missed garbled silent]

/-- A node is found MISSING by its misses, or it was MISSING and the outcome is another NO_REPLY. -/
theorem Node.missed_of_evaluated (missing : n.evaluated o = .missing) :
    n.Missed ∨ o = .noReply ∧ n.state = .missing := by
  by_cases missed : n.Missed
  · exact .inl missed
  by_cases garbled : n.Garbled
  · simp [Node.evaluated_of_garbled missed garbled] at missing
  by_cases silent : o = .noReply
  · rw [silent, Node.evaluated_of_noReply missed garbled] at missing
    exact .inr ⟨silent, missing⟩
  · simp [Node.evaluated_of_reply missed garbled silent] at missing

/-- A node is found ERRATIC by its score, or it was ERRATIC and the outcome is NO_REPLY. -/
theorem Node.garbled_of_evaluated (erratic : n.evaluated o = .erratic) :
    n.Garbled ∨ o = .noReply ∧ n.state = .erratic := by
  by_cases missed : n.Missed
  · simp [Node.evaluated_of_missed missed] at erratic
  by_cases garbled : n.Garbled
  · exact .inl garbled
  by_cases silent : o = .noReply
  · rw [silent, Node.evaluated_of_noReply missed garbled] at erratic
    exact .inr ⟨silent, erratic⟩
  · simp [Node.evaluated_of_reply missed garbled silent] at erratic

end Evaluation

/-! ## The report -/

theorem Node.report_of_counts {o : FrameOutcome} (n : Node) (counts : o.counts = true) :
    n.report o = { n.counted o with state := (n.counted o).evaluated o } := if_pos counts

theorem Node.report_of_not_counts {o : FrameOutcome} (n : Node) (silent : o.counts = false) :
    n.report o = n := by simp [Node.report, silent]

/-- A report keeps a node in use within its bounds: a MISSING node has as many misses as it takes, since
NO_REPLY alone keeps the state and lets them grow, and an ERRATIC one a score above 0 (R137). -/
theorem Node.Coherent.report {n : Node} (h : n.Coherent) (inUse : n.config.inUse = true)
    (o : FrameOutcome) : (n.report o).Coherent := by
  cases counts : o.counts
  · rwa [n.report_of_not_counts counts]
  rw [n.report_of_counts counts]
  have used : n.state ≠ .unused := fun unused => by simp [h.unused.mp unused] at inUse
  obtain ⟨⟨missFloor, missCeiling⟩, ⟨errorFloor, -⟩, -⟩ := h.range
  exact
    { unused := iff_of_false (Node.evaluated_ne_unused (by simpa using used)) (by simp [inUse])
      misses := Node.counted_misses_le h.misses
      score := Node.counted_score_le h.score
      missing := fun missing => by
        obtain missed | ⟨rfl, before⟩ := Node.missed_of_evaluated missing
        · exact missed
        · have reached := h.missing (by simpa using before)
          have counted : (n.counted .noReply).misses = min 255 (n.misses + 1) := rfl
          simp only [Node.counted_config, counted]
          omega
      erratic := fun erratic => by
        obtain (threshold | ⟨-, positive⟩) | ⟨rfl, before⟩ := Node.garbled_of_evaluated erratic
        · rw [Node.counted_config] at threshold
          exact Nat.lt_of_lt_of_le errorFloor threshold
        · exact positive
        · exact h.erratic (by simpa using before)
      range := by simpa using h.range }

/-- Settles O35: the counters by outcome, and the state by the step of the evaluation that applies. -/
theorem nodeAfterAReport : Obligations.NodeAfterAReport := by
  refine ⟨fun n misses score => ⟨⟨rfl, ?_⟩, ⟨?_, rfl⟩, ?_⟩, fun n o => ⟨n.report_config o, ?_, ?_⟩⟩
  · change n.score - 1 = _
    split <;> omega
  · change min 255 (n.misses + 1) = _
    split <;> omega
  · have scored : min 31 (n.score + 2) = if 31 < n.score + 2 then 31 else n.score + 2 := by
      split <;> omega
    rintro o (rfl | rfl | rfl) <;> exact ⟨rfl, scored⟩
  · rintro (rfl | rfl | rfl) <;> rfl
  · intro counted
    have counts : o.counts = true := by
      rcases counted with rfl | rfl | rfl | rfl | rfl <;> rfl
    simp only [n.report_of_counts counts]
    rw [← n.counted_state o, ← n.counted_config o]
    refine ⟨Node.evaluated_of_missed, Node.evaluated_of_garbled, ?_, Node.evaluated_of_reply⟩
    rintro heard clear rfl
    exact Node.evaluated_of_noReply heard clear

end Sys2Proof.Machine
end

-- ==== Proofs: what a row does to the node records ====
section
/-! Every row of the opcode table by what it does to the node records: a counted report is taken by one node
that a descriptor names (R138), and beyond that they stand, but for a COMMIT, an ERASE, a line reset and a
power-on reset. -/

namespace Sys2Proof.Machine

theorem State.node_of_nodes {s t : State} (same : t.nodes = s.nodes) (n : Fin 32) :
    t.node n = s.node n := by rw [State.node, same, State.node]

/-! ## Operations that leave the node records -/

section Stand

variable (s : State) (x : LineId)

@[simp] theorem State.reach_nodes (n : Nat) : (s.reach x n).nodes = s.nodes := s.setLine_nodes x _

@[simp] theorem State.postLine_nodes (kind : EventKind) (index detail : Byte) :
    (s.postLine x kind index detail).nodes = s.nodes := s.post_nodes _ _

@[simp] theorem State.postLineChange_nodes (index : Byte) (cause : Cause) :
    (s.postLineChange x index cause).nodes = s.nodes := s.post_nodes _ _

@[simp] theorem State.stepCounter_nodes (d : Option (Fin 64)) :
    (s.stepCounter d).nodes = s.nodes := by cases d <;> rfl

@[simp] theorem State.startFrame_nodes (source : FrameSource) (d : Fin 64) :
    (s.startFrame x source d).nodes = s.nodes := s.setSeq_nodes x _

@[simp] theorem State.startHush_nodes : (s.startHush x).nodes = s.nodes := s.setSeq_nodes x _

@[simp] theorem State.goOff_nodes (cause : Cause) : (s.goOff x cause).nodes = s.nodes := by
  simp [State.goOff]

@[simp] theorem State.goHeld_nodes (position : Nat) : (s.goHeld x position).nodes = s.nodes := by
  simp [State.goHeld]

@[simp] theorem State.goRunning_nodes (cause : Cause) : (s.goRunning x cause).nodes = s.nodes := by
  simp [State.goRunning]

@[simp] theorem State.goAsleep_nodes : (s.goAsleep x).nodes = s.nodes := by simp [State.goAsleep]

@[simp] theorem State.goWaking_nodes (m : Monitor) (cause : Cause) :
    (s.goWaking x m cause).nodes = s.nodes := by simp [State.goWaking]

@[simp] theorem State.enterFault_nodes : (s.enterFault x).nodes = s.nodes := by
  simp [State.enterFault]

@[simp] theorem State.takeSchedule_nodes (k : Fin 8) : (s.takeSchedule x k).nodes = s.nodes := by
  simp [State.takeSchedule]

@[simp] theorem State.changeSchedule_nodes (followOns : Bool) :
    (s.changeSchedule x followOns).nodes = s.nodes := by simp [State.changeSchedule_eq]

@[simp] theorem State.countCycle_nodes : (s.countCycle x).nodes = s.nodes := s.setLine_nodes x _

@[simp] theorem State.serve_nodes (slotLength : Nat) (queue : List (Fin 64)) :
    (s.serve x slotLength queue).nodes = s.nodes := by
  induction queue generalizing s with
  | nil => exact s.setLine_nodes x _
  | cons d rest ih =>
    unfold State.serve
    dsimp only
    split
    · simp
    · simp [ih]

@[simp] theorem State.slotWork_nodes (i : Fin 128) : (s.slotWork x i).nodes = s.nodes := by
  unfold State.slotWork
  dsimp only
  split
  case h_3 => split <;> simp
  all_goals simp

@[simp] theorem State.beginSlot_nodes (t : Nat) : (s.beginSlot x t).nodes = s.nodes := by
  unfold State.beginSlot
  dsimp only
  split
  · simp
  · split <;> simp

@[simp] theorem State.beginCycle_nodes (t : Nat) (cause : Cause) :
    (s.beginCycle x t cause).nodes = s.nodes := by
  unfold State.beginCycle
  dsimp only
  split <;> simp

@[simp] theorem State.boundary_nodes (t : Nat) (followOns : Bool) (cause : Cause) :
    (s.boundary x t followOns cause).nodes = s.nodes := by
  unfold State.boundary
  dsimp only
  split
  · simp
  · split <;> simp

@[simp] theorem State.release_nodes : (s.release x).nodes = s.nodes := by
  unfold State.release
  dsimp only
  split <;> simp

@[simp] theorem State.holdChanged_nodes (before : Bool) :
    (s.holdChanged x before).nodes = s.nodes := by
  unfold State.holdChanged
  split <;> simp

@[simp] theorem State.setHoldFlag_nodes (v : Bool) : (s.setHoldFlag x v).nodes = s.nodes := by
  simp [State.setHoldFlag]

@[simp] theorem State.endSlot_nodes (k : Fin 8) (t : Nat) : (s.endSlot x k t).nodes = s.nodes := by
  unfold State.endSlot
  dsimp only
  split
  · simp
  · split
    · simp
    · split <;> simp

@[simp] theorem State.startLine_nodes (k : Fin 8) : (s.startLine x k).nodes = s.nodes := by
  simp [State.startLine]

/-! ## Events without a frame's end -/

@[simp] theorem State.slotEnds_nodes : (s.slotEnds x).nodes = s.nodes := by
  unfold State.slotEnds
  dsimp only
  split
  · split <;> simp
  · rfl

@[simp] theorem State.samplePin_nodes (reading : PinLevel) :
    (s.samplePin x reading).nodes = s.nodes := by
  unfold State.samplePin
  dsimp only
  split <;> simp

@[simp] theorem State.levelChanges_nodes : (s.levelChanges x).nodes = s.nodes := by
  unfold State.levelChanges
  dsimp only
  split <;> simp

@[simp] theorem State.alertEnds_nodes : (s.alertEnds x).nodes = s.nodes := by
  unfold State.alertEnds
  dsimp only
  split <;> simp

@[simp] theorem State.markEnds_nodes : (s.markEnds x).nodes = s.nodes := by
  unfold State.markEnds
  dsimp only
  split <;> simp

@[simp] theorem State.controlEnds_nodes : (s.controlEnds x).nodes = s.nodes := by
  unfold State.controlEnds
  dsimp only
  split
  · split <;> simp
  · rfl

@[simp] theorem State.pushSpaceEnds_nodes : (s.pushSpaceEnds x).nodes = s.nodes := by
  unfold State.pushSpaceEnds
  dsimp only
  split <;> simp

@[simp] theorem State.judgeBit_nodes (samples : Samples) :
    (s.judgeBit x samples).nodes = s.nodes := by
  unfold State.judgeBit
  dsimp only
  split <;> simp

@[simp] theorem State.wakeRemotely_nodes : (s.wakeRemotely x).nodes = s.nodes := by
  unfold State.wakeRemotely
  dsimp only
  split <;> simp

@[simp] theorem State.pulseEnds_nodes : (s.pulseEnds x).nodes = s.nodes := by
  unfold State.pulseEnds
  dsimp only
  split <;> simp

@[simp] theorem State.recoveryEnds_nodes : (s.recoveryEnds x).nodes = s.nodes := by
  unfold State.recoveryEnds
  dsimp only
  split <;> simp

end Stand

@[simp] theorem tick_nodes (s : State) : (tick s).nodes = s.nodes := by simp [tick]

/-! ## The end of a frame -/

section Report

variable (s : State)

@[simp] theorem State.tableReport_nodes (d : Fin 64) (r : FrameReport) :
    (s.tableReport d r).nodes = s.nodes := by
  unfold State.tableReport State.postFrame
  dsimp only
  split
  · split <;> simp
  · rfl

@[simp] theorem State.endAdhoc_nodes (x : LineId) (d : Fin 64) (o : FrameOutcome) :
    (s.endAdhoc x d o).nodes = s.nodes := by simp [State.endAdhoc]

@[simp] theorem State.endHush_nodes (x : LineId) (o : FrameOutcome) :
    (s.endHush x o).nodes = s.nodes := by
  unfold State.endHush
  split <;> simp

theorem State.nodeReport_nodes (n : Fin 32) (r : FrameReport) :
    (s.nodeReport n r).nodes = (s.setNode n ((s.node n).report r.outcome)).nodes := by
  rw [State.nodeReport_eq, State.posted_nodes]

theorem State.setNode_self_nodes (n : Fin 32) : (s.setNode n (s.node n)).nodes = s.nodes := by
  simp [State.setNode, State.node]

end Report

/-- The node records take a report with this outcome: they stand, or the one that a descriptor names
takes it (R138). -/
inductive State.NodesTake (o : FrameOutcome) (s t : State) : Prop
  | stand (same : t.nodes = s.nodes)
  | taken {d : Fin 64} {n : Fin 32} (named : (s.desc d).config.node = some n)
      (reported : t.nodes = (s.setNode n ((s.node n).report o)).nodes)

section Take

variable {s t u : State} {o : FrameOutcome}

/-- What stands before a report does not matter to it. -/
theorem State.NodesTake.after (h : State.NodesTake o t u) (nodes : t.nodes = s.nodes)
    (configs : ∀ d, (t.desc d).config = (s.desc d).config) : State.NodesTake o s u := by
  cases h with
  | stand same => exact .stand (same.trans nodes)
  | @taken d n named reported =>
    refine .taken ((configs d).symm ▸ named) (reported.trans ?_)
    rw [State.node_of_nodes nodes, State.setNode, nodes, State.setNode]

theorem State.NodesTake.before (h : State.NodesTake o s t) (nodes : u.nodes = t.nodes) :
    State.NodesTake o s u := by
  cases h with
  | stand same => exact .stand (nodes.trans same)
  | taken named reported => exact .taken named (nodes.trans reported)

/-- READBACK, LINE_STUCK and CANCELLED leave every node record (R138). -/
theorem State.NodesTake.nodes_of_not_counts (h : State.NodesTake o s t) (silent : o.counts = false) :
    t.nodes = s.nodes := by
  cases h with
  | stand same => exact same
  | @taken d n named reported =>
    rw [reported, Node.report_of_not_counts _ silent, State.setNode_self_nodes]

end Take

theorem State.monitorReport_nodesTake (s : State) (d : Fin 64) (r : FrameReport) :
    State.NodesTake r.outcome s (s.monitorReport d r) := by
  unfold State.monitorReport
  split
  · split
    · exact .stand rfl
    · next named => exact .taken named (s.nodeReport_nodes _ r)
  · exact .stand rfl

/-- A report reaches the node records through the node monitor alone (R38). -/
theorem State.deliver_nodesTake (s : State) (r : FrameReport) :
    State.NodesTake r.outcome s (s.deliver r) := by
  unfold State.deliver
  split
  · next d _ =>
    have monitored := ((s.tableReport d r).monitorReport_nodesTake d r).after
      (s.tableReport_nodes d r) (s.lineWork_tableReport r.line d r).configs
    dsimp only
    split
    · exact monitored.before (State.endAdhoc_nodes _ _ _ _)
    · exact monitored
  · exact .stand (s.endHush_nodes _ _)

section FrameEnd

variable (s : State) (x : LineId) (o : FrameOutcome) (reply : List Byte)

theorem State.frameReport_outcome {r : FrameReport} (report : s.frameReport x o reply = some r) :
    r.outcome = o := by
  unfold State.frameReport at report
  dsimp only at report
  split at report <;> cases report
  rfl

theorem State.endFrame_nodesTake : State.NodesTake o s (s.endFrame x o reply) := by
  unfold State.endFrame
  split
  · exact .stand rfl
  · dsimp only
    split
    · next r report =>
      obtain rfl := s.frameReport_outcome x o reply report
      exact (State.deliver_nodesTake _ r).after (by simp) (by simp)
    · exact .stand (by simp)

/-- A frame that ends with an outcome that tells nothing of its station (R138). -/
theorem State.endFrame_nodes (silent : o.counts = false) :
    (s.endFrame x o reply).nodes = s.nodes :=
  (s.endFrame_nodesTake x o reply).nodes_of_not_counts silent

theorem State.reach_endFrame_nodesTake (n : Nat) :
    State.NodesTake o s ((s.reach x n).endFrame x o reply) :=
  (State.endFrame_nodesTake _ x o reply).after (s.reach_nodes x n) (s.lineWork_reach x n).configs

end FrameEnd

/-! ## Events that may end a frame -/

/-- Between two states the node records take at most one report. -/
def State.NodesReported (s t : State) : Prop := ∃ o, State.NodesTake o s t

theorem State.NodesReported.of_nodes {s t : State} (same : t.nodes = s.nodes) :
    s.NodesReported t := ⟨.ok, .stand same⟩

section Ends

variable (s : State) (x : LineId)

theorem State.reach_endFrame_nodesReported (n : Nat) (o : FrameOutcome) (reply : List Byte) :
    s.NodesReported ((s.reach x n).endFrame x o reply) := ⟨o, s.reach_endFrame_nodesTake x o reply n⟩

/-- READBACK ends a frame without a word of its station (R24, R138). -/
@[simp] theorem State.compareBit_nodes (bit : Nat) (samples : Samples) :
    (s.compareBit x bit samples).nodes = s.nodes := by
  unfold State.compareBit
  dsimp only
  split
  · split
    · simp
    · rw [State.endFrame_nodes _ _ _ _ rfl, State.reach_nodes]
  · rfl

/-- LINE_STUCK ends a frame without a word of its station (R131, R138). -/
@[simp] theorem State.reportStuck_nodes : (s.reportStuck x).nodes = s.nodes := by
  unfold State.reportStuck
  dsimp only
  split
  · split
    · simp
    · rw [State.enterFault_nodes, State.endFrame_nodes _ _ _ _ rfl, State.setMonitor_nodes]
  · rfl

theorem State.judgeStart_nodesReported (edge deadline : Nat) (samples : Samples)
    (late : FrameOutcome) : s.NodesReported (s.judgeStart x edge deadline samples late) := by
  unfold State.judgeStart
  dsimp only
  split
  · exact .of_nodes (by simp)
  · split
    · exact s.reach_endFrame_nodesReported x _ _ _
    · exact .of_nodes (by simp)

theorem State.startBit_nodesReported (edge : Nat) (samples : Samples) :
    s.NodesReported (s.startBit x edge samples) := by
  unfold State.startBit
  dsimp only
  split
  · split <;> exact s.judgeStart_nodesReported x _ _ _ _
  · exact .of_nodes rfl

theorem State.character_nodesReported (bits : BitVec 9) :
    s.NodesReported (s.character x bits) := by
  unfold State.character
  dsimp only
  split
  · split
    · exact .of_nodes (by simp)
    · exact s.reach_endFrame_nodesReported x _ _ _
  · exact .of_nodes rfl

theorem State.replySpaceEnds_nodesReported : s.NodesReported (s.replySpaceEnds x) := by
  unfold State.replySpaceEnds
  dsimp only
  split
  · exact s.reach_endFrame_nodesReported x _ _ _
  · exact .of_nodes rfl

theorem State.replyGapEnds_nodesReported : s.NodesReported (s.replyGapEnds x) := by
  unfold State.replyGapEnds
  dsimp only
  split
  · exact s.reach_endFrame_nodesReported x _ _ _
  · exact .of_nodes rfl

theorem State.compareCheck_nodesReported : s.NodesReported (s.compareCheck x) := by
  unfold State.compareCheck
  dsimp only
  split
  · split <;> exact s.reach_endFrame_nodesReported x _ _ _
  · exact .of_nodes rfl

theorem State.windowEnds_nodesReported : s.NodesReported (s.windowEnds x) := by
  unfold State.windowEnds
  dsimp only
  split
  · exact s.reach_endFrame_nodesReported x _ _ _
  · exact .of_nodes rfl

theorem State.pushEnds_nodesReported : s.NodesReported (s.pushEnds x) := by
  unfold State.pushEnds
  dsimp only
  split
  · exact s.reach_endFrame_nodesReported x _ _ _
  · exact .of_nodes rfl

end Ends

/-! ## Commands -/

section Commands

variable (s : State) (x : LineId)

@[simp] theorem State.takeStart_nodes (k : Fin 8) : (s.takeStart x k).nodes = s.nodes := by
  unfold State.takeStart
  split
  · split <;> simp
  · simp

@[simp] theorem State.takeStopEnd_nodes : (s.takeStopEnd x).nodes = s.nodes := by
  unfold State.takeStopEnd
  split <;> simp

/-- STOP_NOW cancels a frame without a word of its station (R98, R138). -/
@[simp] theorem State.takeStopNow_nodes : (s.takeStopNow x).nodes = s.nodes := by
  unfold State.takeStopNow
  split
  · simp
  · rw [State.complete_nodes, State.goOff_nodes, State.endFrame_nodes _ _ _ _ rfl]

@[simp] theorem State.takeSwitch_nodes (k : Fin 8) : (s.takeSwitch x k).nodes = s.nodes := by
  unfold State.takeSwitch
  split
  · split <;> simp
  · simp

@[simp] theorem State.takeWake_nodes : (s.takeWake x).nodes = s.nodes := by
  unfold State.takeWake
  dsimp only
  split <;> simp

@[simp] theorem State.takeClearFault_nodes : (s.takeClearFault x).nodes = s.nodes := by
  unfold State.takeClearFault
  dsimp only
  split
  · split <;> simp
  · simp

@[simp] theorem State.takeSupply_nodes (d : Fin 64) : (s.takeSupply x d).nodes = s.nodes := by
  unfold State.takeSupply
  dsimp only
  split
  · split
    · split <;> simp
    · simp
  · simp

@[simp] theorem State.takeEnqueue_nodes (d : Fin 64) : (s.takeEnqueue x d).nodes = s.nodes := by
  unfold State.takeEnqueue
  split <;> simp

@[simp] theorem State.takeCancel_nodes (d : Fin 64) : (s.takeCancel x d).nodes = s.nodes := by
  unfold State.takeCancel
  dsimp only
  split <;> simp

@[simp] theorem State.takeFlags_nodes (table : TableId) (i : Nat) :
    (s.takeFlags table i).nodes = s.nodes := by cases table <;> rfl

/-- A line reset returns the nodes of the line to UNKNOWN; the frame that it cancels tells nothing of its
station (R101, R138, R147). -/
theorem State.resetLine_node (n : Fin 32) : (s.resetLine x).node n = (s.node n).lineReset x := by
  have ended : (s.endFrame x .cancelled []).node n = s.node n :=
    State.node_of_nodes (s.endFrame_nodes x _ _ rfl) n
  simp [State.resetLine, ended]

end Commands

/-! ## Rows -/

/-- The rows that write node records by other ways than a report. -/
def Instr.writesNodes : Instr → Bool
  | .powerOnReset | .lineReset | .commit | .erase => true
  | _ => false

theorem State.NodesReported.of_next {s t u : State}
    (ends : (.next u : Host.Outcome State Fault Refusal) = .next t) (work : s.NodesReported u) :
    s.NodesReported t := by
  cases ends
  exact work

theorem State.SameTables.nodesReported {s t : State} (same : s.SameTables t) : s.NodesReported t :=
  .of_nodes same.nodes

/-- Every other row leaves the node records, or lets one of them take a report. -/
theorem exec_nodesReported {c : Instr} {s t : State} (ends : exec c s = .next t)
    (other : Instr.writesNodes c = false) : s.NodesReported t := by
  cases c with
  | powerOnReset | lineReset | commit | erase => exact nomatch other
  | start | stopEnd | stopNow | switch | holdSet | holdClear | wake | clearFault | supply
  | enqueue | cancel =>
    refine .of_next ends (.of_nodes ?_)
    split <;> simp
  | openPeek =>
    refine .of_next ends ?_
    split <;> exact .of_nodes rfl
  | openTake =>
    refine .of_next ends ?_
    split
    · exact .of_nodes ((s.sameTables_openTake _ _ _).nodes.trans (s.takeFlags_nodes _ _))
    · exact .of_nodes rfl
  | pop value | intEnableWrite value | kindMaskWrite value =>
    exact .of_next ends (State.sameTables_busWrite (s.sameTables_setEvents _)).nodesReported
  | portPointerWrite value =>
    exact .of_next ends (State.sameTables_busWrite (s.sameTables_writePointer value)).nodesReported
  | portDataRead => exact .of_next ends s.sameTables_readPortData.nodesReported
  | portDataWrite value =>
    exact .of_next ends (State.sameTables_busWrite (s.sameTables_writePortData value)).nodesReported
  | portStateWrite value =>
    exact .of_next ends (State.sameTables_busWrite s.sameTables_closePort).nodesReported
  | registerWrite address value =>
    exact .of_next ends
      (State.sameTables_busWrite (s.sameTables_writeRegister address value)).nodesReported
  | cmdWrite value =>
    exact .of_next ends (State.sameTables_busWrite (s.sameTables_setHost _)).nodesReported
  | resetnRelease | postTaken _ | resetRecordsPosted _ => exact .of_next ends (.of_nodes rfl)
  | holdPinLevelChange x => exact .of_next ends (.of_nodes (s.levelChanges_nodes x))
  | slotEnd x => exact .of_next ends (.of_nodes (s.slotEnds_nodes x))
  | alertEnd x => exact .of_next ends (.of_nodes (s.alertEnds_nodes x))
  | markEnd x => exact .of_next ends (.of_nodes (s.markEnds_nodes x))
  | controlEnd x => exact .of_next ends (.of_nodes (s.controlEnds_nodes x))
  | readback x bit samples => exact .of_next ends (.of_nodes (s.compareBit_nodes x bit samples))
  | pushSpaceEnd x => exact .of_next ends (.of_nodes (s.pushSpaceEnds_nodes x))
  | stuckLineReport x => exact .of_next ends (.of_nodes (s.reportStuck_nodes x))
  | remoteWake x => exact .of_next ends (.of_nodes (s.wakeRemotely_nodes x))
  | wakePulseEnd x => exact .of_next ends (.of_nodes (s.pulseEnds_nodes x))
  | recoveryEnd x => exact .of_next ends (.of_nodes (s.recoveryEnds_nodes x))
  | bitTimeJudged x samples => exact .of_next ends (.of_nodes (s.judgeBit_nodes x samples))
  | holdPinSample x reading => exact .of_next ends (.of_nodes (s.samplePin_nodes x reading))
  | replyCharacter x first second third => exact .of_next ends (s.character_nodesReported x _)
  | replySpaceEnd x => exact .of_next ends (s.replySpaceEnds_nodesReported x)
  | replyGapEnd x => exact .of_next ends (s.replyGapEnds_nodesReported x)
  | checkCompare x => exact .of_next ends (s.compareCheck_nodesReported x)
  | supplyWindowEnd x => exact .of_next ends (s.windowEnds_nodesReported x)
  | pushEnd x => exact .of_next ends (s.pushEnds_nodesReported x)
  | replyStartBit x edge samples => exact .of_next ends (s.startBit_nodesReported x edge samples)

end Sys2Proof.Machine
end

-- ==== Proofs: node coherence at every step ====
section
/-! Every step keeps the node records within their bounds, and a node that a descriptor names in use and on the
descriptor's line (R45, R137, R139, R140, R144, R145). -/

namespace Sys2Proof.Machine

section Keeps

variable {s t : State}

/-- The configurations stand and every node stays coherent. -/
theorem State.NodesCoherent.of_sameConfigs (h : s.NodesCoherent) (same : s.SameConfigs t)
    (nodes : ∀ n, (t.node n).Coherent) : t.NodesCoherent where
  nodes := nodes
  references d n := by
    rw [same.descs, same.nodes]
    exact h.references d n

theorem State.NodesCoherent.of_sameTables (h : s.NodesCoherent) (same : s.SameTables t) :
    t.NodesCoherent :=
  h.of_sameConfigs same.sameConfigs fun n => (same.node n).symm ▸ h.nodes n

/-- A report is taken by a node in use alone, since a descriptor names it (R45, R138). -/
theorem State.NodesCoherent.reported (h : s.NodesCoherent) (work : s.NodesReported t) (n : Fin 32) :
    (t.node n).Coherent := by
  obtain ⟨o, work⟩ := work
  cases work with
  | stand same => exact (State.node_of_nodes same n).symm ▸ h.nodes n
  | @taken d m named reported =>
    rw [State.node_of_nodes reported, State.setNode_node]
    obtain ⟨-, inUse, -⟩ := h.references d m named
    split
    · exact (h.nodes m).report inUse o
    · exact h.nodes n

/-! ## Line resets -/

/-- A node is UNKNOWN with its counters at 0 after a reset of its line, and stays as it is otherwise
(R147). -/
theorem Node.Coherent.lineReset {n : Node} (h : n.Coherent) (x : LineId) :
    (n.lineReset x).Coherent := by
  unfold Node.lineReset
  split
  · next own =>
    exact
      { unused := iff_of_false nofun (by simp [own.1])
        misses := Nat.zero_le _
        score := Nat.zero_le _
        missing := nofun
        erratic := nofun
        range := h.range }
  · exact h

theorem State.NodesCoherent.resetLine (h : s.NodesCoherent) (x : LineId) :
    (s.resetLine x).NodesCoherent :=
  h.of_sameConfigs (s.resetLine_sameConfigs x) fun n =>
    (s.resetLine_node x n).symm ▸ (h.nodes n).lineReset x

/-! ## Commits and erases -/

/-- A descriptor is written that names no node, or a node in use on its line. -/
theorem State.NodesCoherent.setDesc (h : s.NodesCoherent) (d : Fin 64) {v : Descriptor}
    (own : ∀ n, v.config.node = some n →
      v.config.inUse = true ∧ (s.node n).config.inUse = true ∧
        (s.node n).config.line = v.config.line) : (s.setDesc d v).NodesCoherent where
  nodes := h.nodes
  references e n := by
    rw [State.setDesc_desc, State.setDesc_node]
    split
    · exact own n
    · exact h.references e n

/-- A node is written that no descriptor names, or one in use on the line it was on. -/
theorem State.NodesCoherent.setNode (h : s.NodesCoherent) (n : Fin 32) {v : Node}
    (coherent : v.Coherent)
    (free : (∀ d, (s.desc d).config.node ≠ some n) ∨
      v.config.inUse = true ∧ v.config.line = (s.node n).config.line) :
    (s.setNode n v).NodesCoherent where
  nodes m := by
    rw [State.setNode_node]
    split
    · exact coherent
    · exact h.nodes m
  references d m named := by
    obtain ⟨descInUse, inUse, line⟩ := h.references d m named
    rw [State.setNode_node]
    split
    · next same =>
      subst same
      obtain ⟨inUse', line'⟩ := free.resolve_left fun unnamed => unnamed d named
      exact ⟨descInUse, inUse', line'.trans line⟩
    · exact ⟨descInUse, inUse, line⟩

/-- A node without a user is named by no descriptor, in use or not (R144, R145). -/
theorem State.NodesCoherent.unnamed (h : s.NodesCoherent) {n : Fin 32}
    (free : (s.node n).config.inUse = true → s.nodeUser n = none) (d : Fin 64) :
    (s.desc d).config.node ≠ some n := by
  intro named
  obtain ⟨descInUse, inUse, -⟩ := h.references d n named
  exact State.findDescriptor_eq_none.mp (free inUse) d ⟨descInUse, by simp [named]⟩

/-- A commit of a descriptor has checked the node it names, and a node in use that is named stays in use on
its line (R45, R144, R145). -/
theorem State.NodesCoherent.tableWrite (h : s.NodesCoherent) (write : s.TableWrite t) :
    t.NodesCoherent := by
  cases write with
  | refused same => exact same ▸ h
  | commitDescriptor passes written =>
    obtain ⟨range, node, -, -⟩ := State.descriptorRefusal_eq_none.mp passes
    exact written ▸ h.setDesc _ fun n named =>
      ⟨(descriptorFields_of_range range).1, State.badNode_eq_none.mp node n named⟩
  | eraseDescriptor _ written => exact written ▸ h.setDesc _ nofun
  | directory _ _ written | slot _ _ written => exact written ▸ ⟨h.nodes, h.references⟩
  | @node n v coherent free written =>
    refine written ▸ h.setNode n coherent ?_
    by_cases kept : v.config.inUse = true ∧ v.config.line = (s.node n).config.line
    · exact .inr kept
    · exact .inl (h.unnamed fun inUse => (free inUse).resolve_right kept)
  | settings _ _ written =>
    exact written ▸ ⟨by simpa using h.nodes, by simpa using h.references⟩

/-! ## The step -/

theorem State.NodesCoherent.tick (h : s.NodesCoherent) : (tick s).NodesCoherent := by
  obtain ⟨u, lineA, lineB⟩ := tick_quietWork s
  exact h.of_sameConfigs (lineA.sameConfigs.trans lineB.sameConfigs)
    (h.reported (.of_nodes (tick_nodes s)))

/-- A row that leaves the configurations leaves the nodes to their reports, or it writes an entry. -/
theorem State.NodesCoherent.storeWork (h : s.NodesCoherent) (work : s.StoreWork t)
    (nodes : s.NodesReported t) : t.NodesCoherent := by
  cases work with
  | settled same _ => exact h.of_sameConfigs same (h.reported nodes)
  | written write same => exact (h.tableWrite write).of_sameTables same

theorem State.NodesCoherent.of_next {u : State} (h : u.NodesCoherent)
    (ends : (.next u : Host.Outcome State Fault Refusal) = .next t) : t.NodesCoherent := by
  cases ends
  exact h

/-- Every row of the opcode table keeps the nodes coherent. -/
theorem State.NodesCoherent.exec (h : s.NodesCoherent) {c : Instr} (ends : exec c s = .next t) :
    t.NodesCoherent := by
  cases c with
  | powerOnReset =>
    cases ends
    exact State.reset_nodesCoherent.of_sameTables ⟨rfl, rfl, rfl, rfl, rfl, rfl⟩
  | lineReset =>
    refine .of_next ?_ ends
    split
    · exact (h.resetLine _).of_sameTables (State.sameTables_complete _ _)
    · exact h
  | commit =>
    refine .of_next ?_ ends
    split
    · exact (h.tableWrite s.commitPort_tableWrite).of_sameTables (State.sameTables_complete _ _)
    · exact h
  | erase =>
    refine .of_next ?_ ends
    split
    · exact (h.tableWrite (s.eraseEntry_tableWrite _ _)).of_sameTables (State.sameTables_complete _ _)
    · exact h
  | _ => exact h.storeWork (exec_storeWork ends nofun) (exec_nodesReported ends rfl)

end Keeps

/-- Settles O57: a node changes by a report, while a descriptor names it, by a reset of its line, or by a write
that is refused where it would leave a descriptor without its node. -/
theorem everyStepKeepsTheNodesCoherent : Obligations.EveryStepKeepsTheNodesCoherent := by
  intro s t h ends
  unfold step at ends
  split at ends
  · cases ends
    exact h.tick
  · next c rest _ =>
    have same : s.SameTables { s with pending := rest } := ⟨rfl, rfl, rfl, rfl, rfl, rfl⟩
    exact (h.of_sameTables same).exec ends

end Sys2Proof.Machine
end

-- ==== Proofs: the arbiter and the held resets ====
section
/-! What the taking of a post does to each part of the event unit (R150 to R153), and the release of a line
reset's records (R150). -/

namespace Sys2Proof.Machine

section Arbiter

variable {e : EventUnit} {p : Poster} {r : Post} {rest : List Post}

/-- The paths are fields of their own: no other field of the event unit bears on them. -/
theorem EventUnit.path_of_frame {e f : EventUnit}
    (frame : f = { e with queue := f.queue, gap := f.gap, kindMask := f.kindMask,
                          intEnable := f.intEnable, holds := f.holds }) (q : Poster) :
    f.path q = e.path q := by
  rw [frame]
  rcases q with (_ | _) | _ | _ | _ <;> rfl

/-! ## The fate of a post -/

theorem EventUnit.decide_of_disabled (disabled : ¬ e.kindEnabled r.kind = true) : e.decide r = e := by
  simp [EventUnit.decide, disabled]

theorem EventUnit.decide_of_full (enabled : e.kindEnabled r.kind = true) (full : 32 ≤ e.queue.length) :
    e.decide r = { e with gap := min 15 (e.gap + 1) } := by
  simp [EventUnit.decide, enabled, Config.queueCapacity, Config.gapLimit, full]

theorem EventUnit.decide_of_room (enabled : e.kindEnabled r.kind = true) (room : e.queue.length < 32) :
    e.decide r = e.enter r := by
  simp [EventUnit.decide, enabled, Config.queueCapacity, Nat.not_le.mpr room]

/-- A post is discarded, lost or entered (R152). -/
theorem EventUnit.decide_cases (e : EventUnit) (r : Post) :
    e.decide r = e ∨ e.decide r = { e with gap := min 15 (e.gap + 1) } ∨
      e.queue.length < 32 ∧ e.decide r = e.enter r := by
  by_cases enabled : e.kindEnabled r.kind = true
  · by_cases room : e.queue.length < 32
    · exact .inr (.inr ⟨room, decide_of_room enabled room⟩)
    · exact .inr (.inl (decide_of_full enabled (by omega)))
  · exact .inl (decide_of_disabled enabled)

/-- The decision changes the queue and the gap counter alone. -/
theorem EventUnit.decide_eq (e : EventUnit) (r : Post) :
    e.decide r = { e with queue := (e.decide r).queue, gap := (e.decide r).gap } := by
  rcases e.decide_cases r with same | same | ⟨-, same⟩ <;> simp [same, EventUnit.enter]

/-- The decision does not look at the paths. -/
theorem EventUnit.decide_setPath (e : EventUnit) (p : Poster) (posts : List Post) (r : Post) :
    (e.setPath p posts).decide r = (e.decide r).setPath p posts := by
  have mask : (e.setPath p posts).kindEnabled r.kind = e.kindEnabled r.kind := by
    simp [EventUnit.kindEnabled]
  have queue := e.setPath_queue p posts
  by_cases enabled : e.kindEnabled r.kind = true
  · by_cases room : e.queue.length < 32
    · rw [decide_of_room (mask ▸ enabled) (queue ▸ room), decide_of_room enabled room]
      rcases p with (_ | _) | _ | _ | _ <;> rfl
    · have full : 32 ≤ e.queue.length := by omega
      rw [decide_of_full (mask ▸ enabled) (queue ▸ full), decide_of_full enabled full]
      rcases p with (_ | _) | _ | _ | _ <;> rfl
  · rw [decide_of_disabled (mask ▸ enabled), decide_of_disabled enabled]

theorem EventUnit.decide_path (e : EventUnit) (r : Post) (q : Poster) :
    (e.decide r).path q = e.path q := by
  rw [e.decide_eq r, path_of_frame rfl]

/-! ## The taking of a post -/

/-- A line controller's front post waits while a reset of its line has its turn (R150). -/
theorem EventUnit.waitsForReset_iff (e : EventUnit) (x : LineId) :
    e.waitsForReset x = true ↔
      (∃ h ∈ e.holds, h.line = x ∧ h.waiting = 0) ∨ ∃ r ∈ e.pathUnit, r.line = some x := by
  simp [EventUnit.waitsForReset]

theorem EventUnit.ready_iff (e : EventUnit) (p : Poster) :
    e.ready p = true ↔ ∀ x, p = .lineController x → ¬ e.waitsForReset x = true := by
  cases p <;> simp [EventUnit.ready]

/-- The holds after the arbiter has taken a post of a path: each reset of the poster's own line has one post
less to wait for (R150). -/
def EventUnit.holdsAfter (e : EventUnit) : Poster → List ResetHold
  | .lineController x => (e.countTaken x).holds
  | _ => e.holds

theorem EventUnit.takePost_of_nil (empty : e.path p = []) : e.takePost p = e := by
  simp [EventUnit.takePost, empty]

theorem EventUnit.takePost_of_waits (waits : ¬ e.ready p = true) : e.takePost p = e := by
  unfold EventUnit.takePost
  split
  · rfl
  · simp [waits]

/-- The taking of the front post: the path loses it, its fate is decided, and the resets count it. -/
theorem EventUnit.takePost_of_front (front : e.path p = r :: rest) (ready : e.ready p = true) :
    e.takePost p = { (e.decide r).setPath p rest with holds := e.holdsAfter p } := by
  have holds : ((e.decide r).setPath p rest).holds = e.holds := by
    rw [EventUnit.setPath_holds, e.decide_eq r]
  unfold EventUnit.takePost
  simp only [front, ready, if_true, e.decide_setPath p rest r]
  cases p with
  | lineController x => simp only [EventUnit.holdsAfter, EventUnit.countTaken, holds]
  | messageTable | nodeMonitor | commandUnit => simp only [EventUnit.holdsAfter, ← holds]

/-- A taking shortens its own path at the front and leaves every other. -/
theorem EventUnit.takePost_path (front : e.path p = r :: rest) (ready : e.ready p = true) (q : Poster) :
    (e.takePost p).path q = if q = p then rest else e.path q := by
  rw [takePost_of_front front ready, path_of_frame rfl, setPath_path, decide_path]

/-- The queue and the gap counter after a taking are as the post's fate leaves them. -/
theorem EventUnit.takePost_queue (front : e.path p = r :: rest) (ready : e.ready p = true) :
    (e.takePost p).queue = (e.decide r).queue ∧ (e.takePost p).gap = (e.decide r).gap := by
  simp [takePost_of_front front ready]

theorem EventUnit.takePost_settings (front : e.path p = r :: rest) (ready : e.ready p = true) :
    (e.takePost p).kindMask = e.kindMask ∧ (e.takePost p).intEnable = e.intEnable := by
  rw [takePost_of_front front ready, e.decide_eq r]
  simp

theorem EventUnit.takePost_holds (front : e.path p = r :: rest) (ready : e.ready p = true) :
    (e.takePost p).holds = e.holdsAfter p := by
  rw [takePost_of_front front ready]

end Arbiter

/-! ## Held resets -/

section Holds

variable {e : EventUnit} {x : LineId} {before after : List ResetHold} {h : ResetHold}

theorem EventUnit.releaseHold_of_waiting (first : splitHold x e.holds = some (h, after))
    (waiting : 0 < h.waiting) : e.releaseHold x = e := by
  simp [EventUnit.releaseHold, first, waiting.ne']

theorem EventUnit.releaseHold_of_due (first : splitHold x e.holds = some (h, after))
    (due : h.waiting = 0) :
    e.releaseHold x = { e with pathUnit := e.pathUnit ++ h.records, holds := after } := by
  simp [EventUnit.releaseHold, first, due]

/-- The hold that is released is the oldest of its line (R150). -/
theorem splitHold_append (own : h.line = x) (others : ∀ g ∈ before, g.line ≠ x) :
    splitHold x (before ++ h :: after) = some (h, before ++ after) := by
  induction before with
  | nil => simp [splitHold, own]
  | cons g gs ih =>
    obtain ⟨other, others⟩ := List.forall_mem_cons.mp others
    simp [splitHold, other, ih others]

end Holds

/-! ## The two events of the queue -/

theorem exec_postTaken {s : State} {p : Poster} {f : EventUnit} (taken : s.events.takePost p = f) :
    exec (.postTaken p) s = .next (s.setEvents f) := by
  rw [← taken]
  rfl

theorem exec_resetRecordsPosted {s : State} {x : LineId} {f : EventUnit}
    (released : s.events.releaseHold x = f) :
    exec (.resetRecordsPosted x) s = .next (s.setEvents f) := by
  rw [← released]
  rfl

/-- Settles O50: the front post waits as `ready` says, and a taking leaves the fate of its post; a held reset
is the first of its line. -/
theorem arbiterAndResetRecords : Obligations.ArbiterAndResetRecords := by
  refine ⟨fun s p => ?_, fun s x before after h holds own others => ?_⟩
  · intro e waits
    have ready_iff : e.ready p = true ↔ ∀ x, p = .lineController x → ¬ waits x :=
      (e.ready_iff p).trans (forall₂_congr fun x _ => not_congr (e.waitsForReset_iff x))
    refine ⟨fun empty => exec_postTaken (EventUnit.takePost_of_nil empty),
      fun x line waiting => exec_postTaken (EventUnit.takePost_of_waits fun ready =>
        ready_iff.mp ready x line waiting), fun r rest front free => ?_⟩
    intro enabled
    have ready := ready_iff.mpr free
    obtain ⟨queue, gap⟩ := EventUnit.takePost_queue front ready
    obtain ⟨kindMask, intEnable⟩ := EventUnit.takePost_settings front ready
    refine ⟨s.setEvents (e.takePost p), rfl, rfl, ?_, fun q other => ?_, kindMask, intEnable, ?_,
      fun disabled => ?_, fun on full => ?_, fun on room => ?_⟩
    · exact (EventUnit.takePost_path front ready p).trans (if_pos rfl)
    · exact (EventUnit.takePost_path front ready q).trans (if_neg other)
    · refine (EventUnit.takePost_holds front ready).trans ?_
      cases p <;> rfl
    · rw [EventUnit.decide_of_disabled disabled] at queue gap
      exact ⟨queue, gap⟩
    · rw [EventUnit.decide_of_full on full] at queue gap
      exact ⟨queue, gap⟩
    · rw [EventUnit.decide_of_room on room] at queue gap
      exact ⟨queue, gap⟩
  · have first : splitHold x s.events.holds = some (h, before ++ after) :=
      holds ▸ splitHold_append own others
    exact ⟨fun waiting => exec_resetRecordsPosted (EventUnit.releaseHold_of_waiting first waiting),
      fun due => exec_resetRecordsPosted (EventUnit.releaseHold_of_due first due)⟩

end Sys2Proof.Machine
end

-- ==== Proofs: writes to the event registers ====
section
/-! POP, the INT enable, the kind mask and the argument registers (R155 to R157, R160). -/

namespace Sys2Proof.Machine

/-- A bus write reaches the device while RESETn is deasserted (R159). -/
theorem State.busWrite_of_released {s : State} (released : s.inReset = false) (f : State → State) :
    s.busWrite f = f s := by simp [State.busWrite, released]

theorem EventUnit.intAsserted_iff (e : EventUnit) :
    e.intAsserted = true ↔ e.intEnable = true ∧ 0 < e.queue.length := by
  simp [EventUnit.intAsserted, List.length_pos_iff]

/-- A register that is no argument register and has no row of its own ignores a write (R160). -/
theorem State.writeRegister_ignored (s : State) {a : BitVec 5} {v : Byte}
    (plain : (Instr.registerWrite a v).wf = true) (noArg : a ∉ [0x04, 0x05, 0x06, 0x07]) :
    s.writeRegister a v = s := by
  have own : a.toNat ∉ ownRowAddresses := by simpa [Instr.wf] using plain
  have arg : a.toNat ∉ [0x04, 0x05, 0x06, 0x07] := by simpa [← BitVec.toNat_inj] using noArg
  unfold State.writeRegister
  split
  case h_12 => rfl
  case h_2 address | h_3 address | h_4 address | h_5 address => exact absurd (by rw [address]; decide) arg
  all_goals next address => exact absurd (by rw [address]; decide) own

/-- Settles O48: each write is the register's own operation, since RESETn is deasserted. -/
theorem registerWrites : Obligations.RegisterWrites := by
  refine ⟨fun s v released => ?_, fun s v released => ?_⟩
  · have reaches (f : State → State) := State.busWrite_of_released released f
    have pops : exec (.pop v) s = .next s.pop := congrArg Host.Outcome.next (reaches State.pop)
    refine ⟨fun r rest queue => ?_, fun empty => ?_, ?_, ?_, s.events.intAsserted_iff⟩
    · simp [pops, State.pop, EventUnit.popHead, queue]
    · have stays : s.events.popHead = s.events := by
        rw [EventUnit.popHead, empty, List.tail_nil, ← empty]
      rw [pops, State.pop, stays]
      rfl
    · exact congrArg Host.Outcome.next (reaches _)
    · exact congrArg Host.Outcome.next (reaches _)
  · have writes (a : BitVec 5) : exec (.registerWrite a v) s = .next (s.writeRegister a v) :=
      congrArg Host.Outcome.next (State.busWrite_of_released released _)
    exact ⟨writes _, writes _, writes _, writes _, fun a plain noArg =>
      (writes a).trans (congrArg Host.Outcome.next (s.writeRegister_ignored plain noArg))⟩

end Sys2Proof.Machine
end

-- ==== Proofs: the event queue at every step ====
section
/-! Every row of the opcode table by what it does to the event unit: it lets paths grow at their ends, or the
arbiter takes one post, or the head record is popped (R148, R150, R151, R153, R155). -/

namespace Sys2Proof.Machine

/-! ## Growth of the paths -/

/-- The queue and the gap counter stand, and each path can only have grown at its end. -/
structure EventUnit.Grown (e f : EventUnit) : Prop where
  queue : f.queue = e.queue
  gap   : f.gap = e.gap
  paths : ∀ p, ∃ more, f.path p = e.path p ++ more

theorem EventUnit.Grown.refl (e : EventUnit) : e.Grown e := ⟨rfl, rfl, fun _ => ⟨[], by simp⟩⟩

theorem EventUnit.Grown.of_eq {e f : EventUnit} (same : f = e) : e.Grown f := same ▸ .refl e

theorem State.LineWork.grown {x : LineId} {s t : State} (work : State.LineWork x s t) :
    s.events.Grown t.events := ⟨work.queue, work.gap, work.paths⟩

/-- The records of a line reset stand beside the paths until they are released (R150). -/
theorem EventUnit.Grown.hold {e f : EventUnit} (h : e.Grown f) (x : LineId) (records : List Post) :
    e.Grown (f.hold x records) := by
  rw [EventUnit.hold_eq]
  split
  · exact h
  · exact ⟨h.queue, h.gap, fun p => (h.paths p).imp fun _ => (path_of_frame rfl p).trans⟩

/-- The records that the command unit releases join the end of its path (R150). -/
theorem EventUnit.grown_releaseHold (e : EventUnit) (x : LineId) : e.Grown (e.releaseHold x) := by
  unfold EventUnit.releaseHold
  split
  · exact .refl e
  · next h rest _ =>
    split
    · refine ⟨rfl, rfl, fun p => ?_⟩
      cases p with
      | commandUnit => exact ⟨h.records, rfl⟩
      | lineController y => exact ⟨[], by cases y <;> simp [EventUnit.path]⟩
      | messageTable | nodeMonitor => exact ⟨[], by simp [EventUnit.path]⟩
    · exact .refl e

/-! ## Commands -/

section Commands

variable (s : State) (x : LineId)

theorem State.takeStart_grown (k : Fin 8) : s.events.Grown (s.takeStart x k).events := by
  unfold State.takeStart
  split
  · split
    · exact .refl _
    · exact (s.lineWork_startLine x k).grown
  · exact .refl _

theorem State.takeStopEnd_grown : s.events.Grown (s.takeStopEnd x).events := by
  unfold State.takeStopEnd
  split
  case h_1 | h_3 => exact .refl _
  case h_2 =>
    exact ((s.lineWork_setLine x _ (by rfl)).trans (State.lineWork_postLineChange _ x x _ _)).grown
  case h_4 => exact (s.lineWork_setLine x _ (by rfl)).grown
  case h_5 | h_6 | h_7 => exact (s.lineWork_goOff x _).grown

theorem State.takeStopNow_grown : s.events.Grown (s.takeStopNow x).events := by
  unfold State.takeStopNow
  split
  · exact .refl _
  · exact ((s.lineWork_endFrame x _ _).trans (State.lineWork_goOff _ x _)).grown

theorem State.takeWake_grown : s.events.Grown (s.takeWake x).events := by
  unfold State.takeWake
  dsimp only
  split
  · exact ((s.lineWork_setLine x _ (by rfl)).trans (State.lineWork_goWaking _ x _ _)).grown
  · exact .refl _

theorem State.takeClearFault_grown : s.events.Grown (s.takeClearFault x).events := by
  unfold State.takeClearFault
  dsimp only
  split
  · split
    · exact .refl _
    · exact ((s.lineWork_setLine x _ (by rfl)).trans (State.lineWork_goWaking _ x _ _)).grown
  · exact .refl _

/-- A line reset posts the end of the frame it cancels and holds its own records back (R101, R150). -/
theorem State.resetLine_grown : s.events.Grown (s.resetLine x).events := by
  rw [State.resetLine_eq]
  exact (s.lineWork_endFrame x .cancelled []).grown.hold x _

@[simp] theorem State.takeSwitch_events (k : Fin 8) : (s.takeSwitch x k).events = s.events := by
  unfold State.takeSwitch
  split
  · split <;> simp
  · simp

@[simp] theorem State.takeSupply_events (d : Fin 64) : (s.takeSupply x d).events = s.events := by
  unfold State.takeSupply
  dsimp only
  split
  · split
    · split <;> simp
    · simp
  · simp

@[simp] theorem State.takeEnqueue_events (d : Fin 64) : (s.takeEnqueue x d).events = s.events := by
  unfold State.takeEnqueue
  split <;> simp

@[simp] theorem State.takeCancel_events (d : Fin 64) : (s.takeCancel x d).events = s.events := by
  unfold State.takeCancel
  dsimp only
  split <;> simp

theorem State.takeFlags_events (table : TableId) (i : Nat) :
    (s.takeFlags table i).events = s.events := by cases table <;> rfl

end Commands

/-- A commit or an erase posts nothing (R169, R170). -/
theorem State.TableWrite.events {s t : State} (write : s.TableWrite t) : t.events = s.events := by
  cases write with
  | refused same => rw [same]
  | commitDescriptor _ written | eraseDescriptor _ written | directory _ _ written
  | slot _ _ written | node _ _ written | settings _ _ written => simp [written]

/-! ## The port registers -/

theorem State.writePointer_events (s : State) (v : Byte) : (s.writePointer v).events = s.events := by
  unfold State.writePointer
  split <;> rfl

theorem State.writePortData_events (s : State) (v : Byte) :
    (s.writePortData v).events = s.events := by
  unfold State.writePortData
  split <;> rfl

theorem State.closePort_events (s : State) : s.closePort.events = s.events := by
  unfold State.closePort
  split <;> rfl

theorem State.readPortData_events (s : State) : s.readPortData.events = s.events := by
  unfold State.readPortData
  split
  · rfl
  · split <;> rfl

/-! ## Changes of the event unit -/

/-- What the row `c` does to the event unit. -/
inductive EventUnit.Change (c : Instr) (e f : EventUnit) : Prop
  | posts (grown : e.Grown f)
  | takes {p : Poster} {r : Post} {rest : List Post} (row : c = .postTaken p)
      (front : e.path p = r :: rest) (ready : e.ready p = true) (taken : f = e.takePost p)
  | pops (row : (∃ v, c = .pop v) ∨ ∃ v, c = .registerWrite 0x0F v) (popped : f = e.popHead)

section Change

variable {c : Instr} {s t u : State} {e f : EventUnit}

theorem EventUnit.Change.of_eq (same : f = e) : EventUnit.Change c e f := .posts (.of_eq same)

theorem EventUnit.Change.of_next (ends : (.next u : Host.Outcome State Fault Refusal) = .next t)
    (change : EventUnit.Change c s.events u.events) : EventUnit.Change c s.events t.events := by
  cases ends
  exact change

theorem State.LineWork.change {x : LineId} (work : State.LineWork x s t) :
    EventUnit.Change c s.events t.events := .posts work.grown

/-- A bus write does what its register does, or does not reach the device (R159). -/
theorem EventUnit.Change.busWrite {g : State → State}
    (change : EventUnit.Change c s.events (g s).events) :
    EventUnit.Change c s.events (s.busWrite g).events := by
  unfold State.busWrite
  split
  · exact .of_eq rfl
  · exact change

/-- A write to the INT enable or to the kind mask (R156, R157). -/
theorem EventUnit.Grown.of_frame
    (frame : f = { e with kindMask := f.kindMask, intEnable := f.intEnable }) : e.Grown f where
  queue := by rw [frame]
  gap := by rw [frame]
  paths p := ⟨[], by rw [frame, path_of_frame rfl, List.append_nil]⟩

theorem State.writeRegister_change (s : State) (a : BitVec 5) (v : Byte) :
    EventUnit.Change (.registerWrite a v) s.events (s.writeRegister a v).events := by
  unfold State.writeRegister
  split
  case h_6 | h_7 => exact .posts (.of_frame rfl)
  case h_8 address =>
    obtain rfl : a = 0x0F := BitVec.eq_of_toNat_eq address
    exact .pops (.inr ⟨v, rfl⟩) rfl
  case h_9 => exact .of_eq (s.writePointer_events v)
  case h_10 => exact .of_eq (s.writePortData_events v)
  case h_11 => exact .of_eq s.closePort_events
  all_goals exact .of_eq rfl

/-- The arbiter takes the front post of a path, or finds none that it can take. -/
theorem EventUnit.takePost_change (e : EventUnit) (p : Poster) :
    EventUnit.Change (.postTaken p) e (e.takePost p) := by
  by_cases ready : e.ready p = true
  · cases front : e.path p with
    | nil => exact .of_eq (takePost_of_nil front)
    | cons r rest => exact .takes rfl front ready rfl
  · exact .of_eq (takePost_of_waits ready)

/-! ## Rows -/

/-- Every row of the opcode table but POWER_ON_RESET changes the event unit in one of the three ways. -/
theorem exec_eventChange (ends : exec c s = .next t) (other : c ≠ .powerOnReset) :
    EventUnit.Change c s.events t.events := by
  cases c with
  | powerOnReset => exact absurd rfl other
  | start =>
    refine .of_next ends ?_
    split
    · exact .posts (s.takeStart_grown _ _)
    · exact .of_eq rfl
  | stopEnd =>
    refine .of_next ends ?_
    split
    · exact .posts (s.takeStopEnd_grown _)
    · exact .of_eq rfl
  | stopNow =>
    refine .of_next ends ?_
    split
    · exact .posts (s.takeStopNow_grown _)
    · exact .of_eq rfl
  | holdSet | holdClear =>
    refine .of_next ends ?_
    split
    · exact .posts (s.lineWork_setHoldFlag _ _).grown
    · exact .of_eq rfl
  | wake =>
    refine .of_next ends ?_
    split
    · exact .posts (s.takeWake_grown _)
    · exact .of_eq rfl
  | clearFault =>
    refine .of_next ends ?_
    split
    · exact .posts (s.takeClearFault_grown _)
    · exact .of_eq rfl
  | lineReset =>
    refine .of_next ends ?_
    split
    · exact .posts (s.resetLine_grown _)
    · exact .of_eq rfl
  | switch | supply | enqueue | cancel =>
    refine .of_next ends (.of_eq ?_)
    split <;> simp
  | openPeek =>
    refine .of_next ends (.of_eq ?_)
    split <;> rfl
  | openTake =>
    refine .of_next ends (.of_eq ?_)
    split
    · exact State.takeFlags_events _ _ _
    · rfl
  | commit =>
    refine .of_next ends (.of_eq ?_)
    split
    · exact s.commitPort_tableWrite.events
    · rfl
  | erase =>
    refine .of_next ends (.of_eq ?_)
    split
    · exact (s.eraseEntry_tableWrite _ _).events
    · rfl
  | pop value => exact .of_next ends (.busWrite (.pops (.inl ⟨value, rfl⟩) rfl))
  | intEnableWrite value | kindMaskWrite value =>
    exact .of_next ends (.busWrite (.posts (.of_frame rfl)))
  | portPointerWrite value => exact .of_next ends (.busWrite (.of_eq (s.writePointer_events value)))
  | portDataRead => exact .of_next ends (.of_eq s.readPortData_events)
  | portDataWrite value => exact .of_next ends (.busWrite (.of_eq (s.writePortData_events value)))
  | portStateWrite value => exact .of_next ends (.busWrite (.of_eq s.closePort_events))
  | registerWrite address value =>
    exact .of_next ends (.busWrite (s.writeRegister_change address value))
  | cmdWrite value => exact .of_next ends (.busWrite (.of_eq rfl))
  | resetnRelease => exact .of_next ends (.of_eq rfl)
  | postTaken path => exact .of_next ends (s.events.takePost_change path)
  | resetRecordsPosted x => exact .of_next ends (.posts (s.events.grown_releaseHold x))
  | holdPinLevelChange x => exact .of_next ends (s.lineWork_levelChanges x).change
  | slotEnd x => exact .of_next ends (s.lineWork_slotEnds x).change
  | alertEnd x => exact .of_next ends (s.lineWork_alertEnds x).change
  | markEnd x => exact .of_next ends (s.lineWork_markEnds x).change
  | controlEnd x => exact .of_next ends (s.lineWork_controlEnds x).change
  | readback x bit samples => exact .of_next ends (s.lineWork_compareBit x bit samples).change
  | replyCharacter x first second third => exact .of_next ends (s.lineWork_character x _).change
  | replySpaceEnd x => exact .of_next ends (s.lineWork_replySpaceEnds x).change
  | replyGapEnd x => exact .of_next ends (s.lineWork_replyGapEnds x).change
  | checkCompare x => exact .of_next ends (s.lineWork_compareCheck x).change
  | supplyWindowEnd x => exact .of_next ends (s.lineWork_windowEnds x).change
  | pushSpaceEnd x => exact .of_next ends (s.lineWork_pushSpaceEnds x).change
  | pushEnd x => exact .of_next ends (s.lineWork_pushEnds x).change
  | stuckLineReport x => exact .of_next ends (s.lineWork_reportStuck x).change
  | remoteWake x => exact .of_next ends (s.lineWork_wakeRemotely x).change
  | wakePulseEnd x => exact .of_next ends (s.lineWork_pulseEnds x).change
  | recoveryEnd x => exact .of_next ends (s.lineWork_recoveryEnds x).change
  | replyStartBit x edge samples => exact .of_next ends (s.lineWork_startBit x edge samples).change
  | bitTimeJudged x samples => exact .of_next ends (s.lineWork_judgeBit x samples).change
  | holdPinSample x reading => exact .of_next ends (s.lineWork_samplePin x reading).change

/-! ## Bounds -/

/-- The bounds are on the queue and the gap counter alone. -/
theorem EventUnit.Bounded.of_same (h : e.Bounded) (queue : f.queue = e.queue) (gap : f.gap = e.gap) :
    f.Bounded := ⟨queue ▸ h.count, gap ▸ h.gap, queue ▸ h.gaps⟩

/-- A post is entered only where there is room, with the gap counter as its gap (R151 to R153). -/
theorem EventUnit.Bounded.decide (h : e.Bounded) (r : Post) : (e.decide r).Bounded := by
  rcases e.decide_cases r with stands | lost | ⟨room, entered⟩
  · rwa [stands]
  · exact lost ▸ ⟨h.count, min_le_left _ _, h.gaps⟩
  · refine entered ▸ ⟨?_, Nat.zero_le _, ?_⟩
    · simpa [EventUnit.enter] using room
    · intro record mem
      rcases List.mem_append.mp mem with old | new
      · exact h.gaps record old
      · exact List.mem_singleton.mp new ▸ h.gap

theorem EventUnit.Bounded.popHead (h : e.Bounded) : e.popHead.Bounded where
  count := by
    rw [EventUnit.popHead, List.length_tail]
    exact (Nat.sub_le _ _).trans h.count
  gap := h.gap
  gaps r mem := h.gaps r (List.mem_of_mem_tail mem)

theorem EventUnit.Bounded.change (h : e.Bounded) (change : EventUnit.Change c e f) : f.Bounded := by
  cases change with
  | posts grown => exact h.of_same grown.queue grown.gap
  | takes _ front ready taken =>
    obtain ⟨queue, gap⟩ := takePost_queue front ready
    exact taken ▸ (h.decide _).of_same queue gap
  | pops _ popped => exact popped ▸ h.popHead

/-- Every row keeps the bounds; a power-on reset empties the queue (R158). -/
theorem exec_bounded (h : s.events.Bounded) (ends : exec c s = .next t) : t.events.Bounded := by
  by_cases reset : c = .powerOnReset
  · subst reset
    cases ends
    exact State.reset_bounded
  · exact h.change (exec_eventChange ends reset)

theorem tick_events (s : State) : (tick s).events = s.events := by simp [tick]

theorem step_bounded (h : s.events.Bounded) (ends : step s = .next t) : t.events.Bounded := by
  unfold step at ends
  split at ends
  · cases ends
    rwa [tick_events]
  · next rest _ => exact exec_bounded (s := { s with pending := rest }) h ends

/-! ## The order of records and posts -/

/-- The queue gains a record at its tail, from a post that has left the front of its path, and loses one at
its head (R150, R152, R155). -/
theorem EventUnit.Change.queue_order (change : EventUnit.Change c e f) :
    f.queue = e.queue ∨
      (∃ r, f.queue = e.queue ++ [r] ∧ ∃ p rest, c = .postTaken p ∧
        e.path p = r.post :: rest ∧ f.path p = rest) ∨
      (f.queue = e.queue.tail ∧ ((∃ v, c = .pop v) ∨ ∃ v, c = .registerWrite 0x0F v)) := by
  cases change with
  | posts grown => exact .inl grown.queue
  | @takes p r rest row front ready taken =>
    have queue : f.queue = (e.decide r).queue := taken ▸ (takePost_queue front ready).1
    have own : f.path p = rest := by rw [taken, takePost_path front ready, if_pos rfl]
    rcases e.decide_cases r with stands | lost | ⟨-, entered⟩
    · exact .inl (queue.trans (by rw [stands]))
    · exact .inl (queue.trans (by rw [lost]))
    · exact .inr (.inl ⟨{ post := r, gap := e.gap }, queue.trans (by rw [entered, EventUnit.enter]),
        p, rest, row, front, own⟩)
  | pops row popped => exact .inr (.inr ⟨congrArg EventUnit.queue popped, row⟩)

/-- A path gains posts at its end, and loses one at its front to the arbiter (R150). -/
theorem EventUnit.Change.path_order (change : EventUnit.Change c e f) (q : Poster) :
    (∃ more, f.path q = e.path q ++ more) ∨
      (c = .postTaken q ∧ ∃ r, e.path q = r :: f.path q) := by
  cases change with
  | posts grown => exact .inl (grown.paths q)
  | @takes p r rest row front ready taken =>
    have path := taken ▸ takePost_path front ready q
    by_cases own : q = p
    · subst own
      rw [if_pos rfl] at path
      exact .inr ⟨row, r, path.symm ▸ front⟩
    · exact .inl ⟨[], by rw [path, if_neg own, List.append_nil]⟩
  | pops _ popped =>
    exact .inl ⟨[], by rw [popped, path_of_frame rfl, List.append_nil]⟩

end Change

/-- Settles O55: each of the three changes keeps the bounds and the order. -/
theorem everyStepKeepsTheEventQueue : Obligations.EveryStepKeepsTheEventQueue := by
  refine ⟨fun s t => step_bounded, fun c s t ends other => ?_⟩
  have change := exec_eventChange ends other
  exact ⟨change.queue_order, change.path_order⟩

end Sys2Proof.Machine
end

-- ==== Proofs: the bytes of a header ====
section
/-! The tag byte, the control byte and the order in which their bits are sent (R4, R7, R8, R177). -/

namespace Sys2Proof.Machine

/-- Under its parity bit the tag byte holds the tag, so its ones are the tag's and the parity bit (R7). -/
theorem tagByte_ones (tag : BitVec 7) :
    ((List.range 8).filter fun i => (tagByte tag).getLsbD i).length =
      ((List.range 7).filter fun i => tag.getLsbD i).length + (!tagParity tag).toNat := by
  have low : (List.range 7).filter (fun i => (tagByte tag).getLsbD i) =
      (List.range 7).filter fun i => tag.getLsbD i := by
    refine List.filter_congr fun i inside => ?_
    rw [tagByte, BitVec.getLsbD_append, if_pos (List.mem_range.mp inside)]
  have parity : (tagByte tag).getLsbD 7 = !tagParity tag := by
    rw [tagByte, BitVec.getLsbD_append, if_neg (lt_irrefl 7)]
    simp
  rw [List.range_succ, List.filter_append, List.length_append, low, List.filter_singleton, parity]
  cases tagParity tag <;> rfl

theorem tagByte_odd (tag : BitVec 7) :
    ((List.range 8).filter fun i => (tagByte tag).getLsbD i).length % 2 = 1 := by
  rw [tagByte_ones]
  cases parity : tagParity tag <;>
    · simp only [tagParity, beq_iff_eq, beq_eq_false_iff_ne] at parity
      simp only [Bool.not_true, Bool.not_false, Bool.toNat_true, Bool.toNat_false]
      omega

section ControlByte

variable (direction : Direction) (length : Nat) (counter : BitVec 3)

theorem controlByte_direction :
    (controlByte direction length counter).getLsbD 7 = true ↔ direction = .push := by
  rw [controlByte, BitVec.getLsbD_append, if_neg (by decide), BitVec.getLsbD_append,
    if_neg (by decide)]
  simp

theorem controlByte_length :
    (controlByte direction length counter).extractLsb' 3 4 = BitVec.ofNat 4 (length - 1) := by
  rw [controlByte, BitVec.extractLsb'_append_eq_of_le le_rfl]
  exact BitVec.extractLsb'_append_eq_right

theorem controlByte_counter :
    (controlByte direction length counter).extractLsb' 0 3 = counter :=
  BitVec.extractLsb'_append_eq_right

end ControlByte

/-- Bit `k` of a byte is sent in bit `k + 1` of its character, behind the start bit (R4). -/
theorem characterBit_data (byte : Byte) {k : Nat} (inside : k < 8) :
    characterBit byte (k + 1) = if byte.getLsbD k then .recessive else .dominant := by
  rw [characterBit, if_neg k.succ_ne_zero, if_pos (by omega), Nat.add_sub_cancel]

/-- Settles O6: each field is read back out of the append that forms its byte. -/
theorem tagAndControlBytes : Obligations.TagAndControlBytes := by
  refine ⟨fun tag => ⟨BitVec.setWidth_append_eq_right, tagByte_odd tag⟩,
    fun direction length counter least most => ⟨controlByte_direction direction length counter, ?_,
      controlByte_counter direction length counter⟩,
    fun byte k => characterBit_data byte, by decide, by decide, by decide, by decide, by decide⟩
  rw [controlByte_length, BitVec.toNat_ofNat]
  exact Nat.mod_eq_of_lt (by omega)

end Sys2Proof.Machine
end

-- ==== Proofs: the command unit ====
section
/-! The write to CMD (R162 to R164) and the checks of a command's code and arguments (R163, R174). -/

namespace Sys2Proof.Machine

/-! ## Arguments -/

theorem lineArg_lineCode (x : LineId) : lineArg (lineCode x) = some x := by cases x <;> rfl

theorem lineArg_eq_none {v : Byte} (beyond : 2 ≤ v.toNat) : lineArg v = none := by
  unfold lineArg
  rw [if_neg, if_neg] <;>
    · rintro rfl
      exact absurd beyond (by decide)

theorem indexArg_eq_none {n : Nat} {v : Byte} (beyond : n ≤ v.toNat) : indexArg n v = none :=
  dif_neg (Nat.not_lt.mpr beyond)

theorem tableArg_tableCode (table : TableId) : tableArg (tableCode table) = some table := by
  cases table <;> rfl

theorem tableArg_eq_none {v : Byte} (beyond : 6 ≤ v.toNat) : tableArg v = none := by
  unfold tableArg
  rw [if_neg, if_neg, if_neg, if_neg, if_neg, if_neg] <;>
    · rintro rfl
      exact absurd beyond (by decide)

/-! ## Forms -/

section Forms

variable {a0 a1 : Byte}

theorem lineForm_refused (make : LineId → Command) (beyond : 2 ≤ a0.toNat) :
    lineForm a0 make = .error 0x00 := by rw [lineForm, lineArg_eq_none beyond]

theorem lineForm_passed (make : LineId → Command) (x : LineId) :
    lineForm (lineCode x) make = .ok (make x) := by rw [lineForm, lineArg_lineCode]

variable {n : Nat} (make : LineId → Fin n → Command)

theorem lineIndexForm_line_refused (beyond : 2 ≤ a0.toNat) :
    lineIndexForm n a0 a1 make = .error 0x00 := by rw [lineIndexForm, lineArg_eq_none beyond]

theorem lineIndexForm_index_refused (x : LineId) (beyond : n ≤ a1.toNat) :
    lineIndexForm n (lineCode x) a1 make = .error 0x01 := by
  simp only [lineIndexForm, lineArg_lineCode, indexArg_eq_none beyond]

theorem lineIndexForm_passed (x : LineId) {i : Fin n} (index : a1.toNat = i.val) :
    lineIndexForm n (lineCode x) a1 make = .ok (make x i) := by
  simp only [lineIndexForm, lineArg_lineCode, indexArg_eq_some.mpr index]

variable (makeTable : TableId → Nat → Command) (table : TableId)

theorem tableForm_table_refused (beyond : 6 ≤ a0.toNat) :
    tableForm a0 a1 makeTable = .error 0x00 := by rw [tableForm, tableArg_eq_none beyond]

theorem tableForm_tableCode :
    tableForm (tableCode table) a1 makeTable =
      if a1.toNat < entryCount table then .ok (makeTable table a1.toNat) else .error 0x01 := by
  rw [tableForm, tableArg_tableCode]

end Forms

/-! ## Codes -/

section Codes

variable {code : Byte} (a0 a1 : Byte)

theorem decodeCommand_schedule {make : LineId → Fin 8 → Command}
    (row : (code, make) ∈ [((0x01 : Byte), Command.start), (0x04, Command.switch)]) :
    decodeCommand code a0 a1 = lineIndexForm 8 a0 a1 make := by
  simp only [List.mem_cons, Prod.mk.injEq, List.not_mem_nil, or_false] at row
  rcases row with ⟨rfl, rfl⟩ | ⟨rfl, rfl⟩ <;> rfl

theorem decodeCommand_line {make : LineId → Command}
    (row : (code, make) ∈
      [((0x02 : Byte), Command.stopEnd), (0x03, Command.stopNow), (0x05, Command.holdSet),
       (0x06, Command.holdClear), (0x07, Command.wake), (0x08, Command.clearFault),
       (0x09, Command.lineReset)]) :
    decodeCommand code a0 a1 = lineForm a0 make := by
  simp only [List.mem_cons, Prod.mk.injEq, List.not_mem_nil, or_false] at row
  rcases row with ⟨rfl, rfl⟩ | ⟨rfl, rfl⟩ | ⟨rfl, rfl⟩ | ⟨rfl, rfl⟩ | ⟨rfl, rfl⟩ | ⟨rfl, rfl⟩ |
    ⟨rfl, rfl⟩ <;> rfl

theorem decodeCommand_descriptor {make : LineId → Fin 64 → Command}
    (row : (code, make) ∈
      [((0x10 : Byte), Command.supply), (0x11, Command.enqueue), (0x12, Command.cancel)]) :
    decodeCommand code a0 a1 = lineIndexForm 64 a0 a1 make := by
  simp only [List.mem_cons, Prod.mk.injEq, List.not_mem_nil, or_false] at row
  rcases row with ⟨rfl, rfl⟩ | ⟨rfl, rfl⟩ | ⟨rfl, rfl⟩ <;> rfl

theorem decodeCommand_table {make : TableId → Nat → Command}
    (row : (code, make) ∈
      [((0x20 : Byte), Command.openPeek), (0x21, Command.openTake), (0x23, Command.erase)]) :
    decodeCommand code a0 a1 = tableForm a0 a1 make := by
  simp only [List.mem_cons, Prod.mk.injEq, List.not_mem_nil, or_false] at row
  rcases row with ⟨rfl, rfl⟩ | ⟨rfl, rfl⟩ | ⟨rfl, rfl⟩ <;> rfl

theorem decodeCommand_unknown
    (unknown : code ∉ [0x01, 0x02, 0x03, 0x04, 0x05, 0x06, 0x07, 0x08, 0x09, 0x10, 0x11, 0x12,
      0x20, 0x21, 0x22, 0x23]) : decodeCommand code a0 a1 = .error 0xFF := by
  simp only [List.mem_cons, List.not_mem_nil, or_false, not_or] at unknown
  simp only [decodeCommand, unknown, if_false]

end Codes

theorem entryCount_of_mem {table : TableId} {n : Nat}
    (row : (table, n) ∈ [(TableId.descriptor, 64), (.slot, 128), (.directory, 8), (.node, 32),
      (.line, 2), (.adhoc, 2)]) : entryCount table = n := by
  simp only [List.mem_cons, Prod.mk.injEq, List.not_mem_nil, or_false] at row
  rcases row with ⟨rfl, rfl⟩ | ⟨rfl, rfl⟩ | ⟨rfl, rfl⟩ | ⟨rfl, rfl⟩ | ⟨rfl, rfl⟩ | ⟨rfl, rfl⟩ <;> rfl

/-- Settles O10: each code selects its form, and the form checks its arguments in register order. -/
theorem commandCodesAndArguments : Obligations.CommandCodesAndArguments := by
  intro code a0 a1
  refine ⟨decodeCommand_unknown a0 a1, fun make row => ?_, fun make row => ?_, fun make row => ?_,
    fun make row => ?_, ?_⟩
  · rw [decodeCommand_schedule a0 a1 row]
    refine ⟨lineIndexForm_line_refused make, ?_⟩
    rintro x rfl
    exact ⟨lineIndexForm_index_refused make x, fun k => lineIndexForm_passed make x⟩
  · rw [decodeCommand_line a0 a1 row]
    refine ⟨lineForm_refused make, ?_⟩
    rintro x rfl
    exact lineForm_passed make x
  · rw [decodeCommand_descriptor a0 a1 row]
    refine ⟨lineIndexForm_line_refused make, ?_⟩
    rintro x rfl
    exact ⟨lineIndexForm_index_refused make x, fun d => lineIndexForm_passed make x⟩
  · rw [decodeCommand_table a0 a1 row]
    refine ⟨tableForm_table_refused make, ?_⟩
    rintro table n entries rfl
    rw [tableForm_tableCode, entryCount_of_mem entries]
    exact ⟨fun beyond => if_neg (Nat.not_lt.mpr beyond), fun inside => if_pos inside⟩
  · rintro rfl
    rfl

/-! ## The write to CMD -/

section Write

variable {h : HostPort} {v : Byte}

theorem HostPort.writeCommand_busy (busy : h.busy = true) :
    h.writeCommand v = { h with collided := true } := if_pos busy

theorem HostPort.writeCommand_accepted {c : Command} (free : h.busy = false)
    (passes : decodeCommand v h.arg0 h.arg1 = .ok c) :
    h.writeCommand v =
      { h with collided := false, command := v, latch0 := h.arg0, latch1 := h.arg1,
               busy := true } := by
  simp [HostPort.writeCommand, free, passes]

theorem HostPort.writeCommand_refused {detail : Byte} (free : h.busy = false)
    (fails : decodeCommand v h.arg0 h.arg1 = .error detail) :
    h.writeCommand v =
      { h with collided := false, command := v, latch0 := h.arg0, latch1 := h.arg1,
               busy := false, result := .badArg, detail := detail } := by
  simp [HostPort.writeCommand, free, fails]

end Write

theorem State.accepted_of_decode {s : State} {c : Command} (busy : s.host.busy = true)
    (passes : decodeCommand s.host.command s.host.latch0 s.host.latch1 = .ok c) :
    s.accepted = some c := by simp only [State.accepted, busy, passes, if_true]

theorem State.accepted_of_free {s : State} (free : s.host.busy = false) : s.accepted = none := by
  simp [State.accepted, free]

/-- No bus write reaches the device while RESETn is asserted (R159). -/
theorem State.busWrite_of_inReset {s : State} (reset : s.inReset = true) (f : State → State) :
    s.busWrite f = s := if_pos reset

theorem exec_cmdWrite {s : State} (released : s.inReset = false) (v : Byte) :
    exec (.cmdWrite v) s = .next (s.setHost (s.host.writeCommand v)) :=
  congrArg Host.Outcome.next (State.busWrite_of_released released _)

/-- Settles O9: CMD is written as the command unit judges it, and a write to ARG0 or ARG1 does not reach the
latches. -/
theorem commandWrite : Obligations.CommandWrite := by
  refine ⟨fun s v released free => ?_, fun s v released busy => ?_,
    fun s v reset => congrArg Host.Outcome.next (State.busWrite_of_inReset reset _),
    fun s a v argument => ?_,
    fun s => ⟨s.powerOn, exec_powerOnReset s, rfl, rfl, rfl, rfl, rfl, rfl, rfl⟩⟩
  · refine ⟨_, exec_cmdWrite released v, rfl, ?_⟩
    have reads (h : HostPort) : (s.setHost h).readRegister 0x03 = h.command := by
      simp [State.readRegister, released]
    cases check : decodeCommand v s.host.arg0 s.host.arg1 with
    | ok c =>
      rw [HostPort.writeCommand_accepted free check, reads]
      refine ⟨rfl, rfl, rfl, rfl, rfl, rfl, rfl, rfl, rfl, ?_, nofun⟩
      rintro _ ⟨⟩
      exact ⟨rfl, State.accepted_of_decode rfl check, rfl, rfl⟩
    | error detail =>
      rw [HostPort.writeCommand_refused free check, reads]
      refine ⟨rfl, rfl, rfl, rfl, rfl, rfl, rfl, rfl, rfl, nofun, ?_⟩
      rintro _ ⟨⟩
      exact ⟨rfl, State.accepted_of_free rfl, rfl, rfl⟩
  · rw [exec_cmdWrite released, HostPort.writeCommand_busy busy]
  · refine ⟨s.busWrite fun t => t.writeRegister a v, rfl, ?_⟩
    unfold State.busWrite
    split
    · exact ⟨rfl, rfl⟩
    · rcases argument with rfl | rfl <;> exact ⟨rfl, rfl⟩

end Sys2Proof.Machine
end

-- ==== Proofs: the register window ====
section
/-! What the registers read (R154, R156, R160, R161, R173 to R176), the window while RESETn is asserted (R159,
R171), and the port registers (R165, R168, R170). -/

namespace Sys2Proof.Machine

/-! ## Bytes of a buffer -/

theorem byteAt_eq_getElem {n : Nat} (buffer : Vector Byte n) {i : Nat} (inside : i < n) :
    byteAt buffer i = buffer[i] := by simp [byteAt, inside]

theorem setIfInBounds_eq_set {n : Nat} (buffer : Vector Byte n) {i : Nat} (inside : i < n) (v : Byte) :
    buffer.setIfInBounds i v = buffer.set i v := by
  ext j within
  rw [Vector.getElem_setIfInBounds, Vector.getElem_set]

/-! ## Packed bytes -/

/-- Four flags in bits 0 to 3 of a byte, the others 0. -/
theorem flagBits (b0 b1 b2 b3 : Bool) :
    let v : Byte := BitVec.ofNat 8 (b0.toNat + 2 * b1.toNat + 4 * b2.toNat + 8 * b3.toNat)
    v.getLsbD 0 = b0 ∧ v.getLsbD 1 = b1 ∧ v.getLsbD 2 = b2 ∧ v.getLsbD 3 = b3 ∧ v.toNat < 16 := by
  revert b0 b1 b2 b3
  decide

theorem lineStateCode_lt (state : LineState) : lineStateCode state < 8 := by cases state <;> decide

theorem frameStateCode_lt (state : FrameState) : frameStateCode state < 16 := by
  cases state <;> decide

/-- A line-state register holds its two codes in bits 0 to 2 and 4 to 7 (R173). -/
theorem LineController.stateByte_fields (l : LineController) :
    l.stateByte.toNat % 8 = lineStateCode l.lineState ∧ l.stateByte.getLsbD 3 = false ∧
      l.stateByte.toNat / 16 = frameStateCode l.seq.frameState := by
  have low := lineStateCode_lt l.lineState
  have high := frameStateCode_lt l.seq.frameState
  have value : l.stateByte.toNat = lineStateCode l.lineState + 16 * frameStateCode l.seq.frameState := by
    rw [LineController.stateByte, BitVec.toNat_ofNat]
    omega
  refine ⟨by omega, ?_, by omega⟩
  rw [BitVec.getLsbD, value, Nat.testBit_eq_decide_div_mod_eq, decide_eq_false_iff_not]
  omega

/-- The two bytes of a count, high byte first, are the count (R172). -/
theorem highByte_append_lowByte (n : Count16) : (highByte n.toNat ++ lowByte n.toNat : BitVec 16) = n := by
  have high : highByte n.toNat = n.extractLsb' 8 8 := by
    rw [highByte, BitVec.extractLsb', Nat.shiftRight_eq_div_pow]
  have low : lowByte n.toNat = n.extractLsb' 0 8 := rfl
  rw [high, low]
  exact BitVec.extractLsb'_append_extractLsb'

/-! ## Reads -/

/-- What a register shows while RESETn is asserted is 00h (R159). -/
theorem State.readRegister_of_inReset {s : State} (reset : s.inReset = true) (a : BitVec 5) :
    s.readRegister a = 0x00 := if_pos reset

/-- While RESETn is deasserted a register reads as the map of R173 gives it. -/
theorem State.readRegister_of_released {s : State} (released : s.inReset = false) {a : BitVec 5}
    {v : Byte} (shown : ({ s with inReset := false } : State).readRegister a = v) :
    s.readRegister a = v := by
  rwa [← released] at shown

/-- The seven head registers together are the head window (R154). -/
theorem State.readRegister_head {s : State} (released : s.inReset = false) :
    [0x10, 0x11, 0x12, 0x13, 0x14, 0x15, 0x16].map s.readRegister = headWindow s.events.queue := by
  have each : [0x10, 0x11, 0x12, 0x13, 0x14, 0x15, 0x16].map s.readRegister =
      (List.range 7).map fun k => (headWindow s.events.queue)[k]?.getD 0 := by
    simp only [List.map_cons, List.map_nil, State.readRegister_of_released released rfl]
    rfl
  rw [each]
  cases s.events.queue <;> rfl

/-- Settles O47: each register is its row of the map, and the packed bytes have lemmas of their own. -/
theorem registerReads : Obligations.RegisterReads := by
  refine ⟨⟨rfl, rfl, fun _ => rfl, fun _ _ => rfl, fun _ => rfl, rfl, rfl, rfl, rfl, rfl, rfl, rfl, rfl⟩,
    fun s released => ?_⟩
  have reads {a : BitVec 5} {v : Byte} := State.readRegister_of_released released (a := a) (v := v)
  have heads := State.readRegister_head released
  refine ⟨reads rfl, reads rfl, ?_, reads rfl, reads rfl, reads rfl, reads rfl, reads rfl, reads rfl,
    reads rfl, fun x => ?_, reads rfl, reads rfl, reads rfl, fun empty => ?_, fun r rest front => ?_,
    reads rfl, reads rfl, ?_, fun busy => reads (if_pos busy), fun free => ?_, reads rfl, ?_⟩
  · have status : s.readRegister 0x02 = s.statusByte := reads rfl
    obtain ⟨busy, collided, isOpen, int, small⟩ :=
      flagBits s.host.busy s.host.collided s.port.isOpen s.events.intAsserted
    rw [status]
    refine ⟨busy, collided, isOpen, ?_, small⟩
    rw [State.statusByte, int, EventUnit.intAsserted_iff, List.length_pos_iff]
  · have state : s.readRegister (if x = .a then 0x0A else 0x0B) = (s.line x).stateByte := by
      cases x <;> exact reads rfl
    rw [state]
    exact (s.line x).stateByte_fields
  · rw [heads, empty, headWindow]
  · rw [front, headWindow] at heads
    simp only [List.map_cons, List.map_nil, List.cons.injEq, and_true] at heads
    obtain ⟨kind, line, index, detail, low, high, gap⟩ := heads
    exact ⟨kind, line, index, detail, by rw [high, low, highByte_append_lowByte], gap⟩
  · have pointer : s.readRegister 0x1A = s.port.pointer.setWidth 8 := reads rfl
    rw [pointer, BitVec.toNat_setWidth]
    omega
  · have idle : ¬ s.host.busy = true := by simp [free]
    have data : s.readRegister 0x1B = byteAt s.port.buffer s.port.pointer.toNat :=
      reads (if_neg idle)
    rw [data, byteAt_eq_getElem]
  · simp only [List.map_cons, List.map_nil, reads rfl]
    rfl

/-! ## Power-on reset -/

/-- Settles O5: under reset no access reaches the device, and the reset state reads as the map's values. -/
theorem powerOnResetOfTheHostSide : Obligations.PowerOnResetOfTheHostSide := by
  refine ⟨fun s => rfl, fun s reset => ?_,
    fun s => ⟨s.powerOn, exec_powerOnReset s, rfl, rfl, rfl, rfl, rfl, rfl⟩⟩
  have ignored (f : State → State) :
      Host.Outcome.next (s.busWrite f) = (.next s : Host.Outcome State Fault Refusal) :=
    congrArg Host.Outcome.next (State.busWrite_of_inReset reset f)
  refine ⟨State.readRegister_of_inReset reset, fun a v => ignored _, fun v => ?_,
    congrArg Host.Outcome.next (if_pos reset)⟩
  simp only [List.forall_mem_cons]
  exact ⟨ignored _, ignored _, ignored _, ignored _, ignored _, ignored _, ignored _, nofun⟩

/-! ## The port registers -/

theorem nextPointer_eq (p : BitVec 5) : nextPointer p = if p.toNat = 31 then 31 else p + 1 := by
  have last : p = 31 ↔ p.toNat = 31 := (BitVec.toNat_inj (y := 31)).symm
  unfold nextPointer
  split
  · next isLast => rw [if_pos (last.mp isLast), isLast]
  · next inside => rw [if_neg (mt last.mpr inside)]

section PortRegisters

variable {s : State} (v : Byte)

theorem State.writePointer_free (free : s.host.busy = false) :
    s.writePointer v = s.setPort { s.port with pointer := v.extractLsb' 0 5 } := by
  rw [State.writePointer, if_neg (by simp [free]), BitVec.setWidth_eq_extractLsb' (by decide)]

theorem State.writePointer_busy (busy : s.host.busy = true) : s.writePointer v = s.collide :=
  if_pos busy

theorem State.writePortData_free (free : s.host.busy = false) :
    s.writePortData v =
      s.setPort { s.port with buffer := s.port.buffer.set s.port.pointer.toNat v,
                              pointer := nextPointer s.port.pointer } := by
  rw [State.writePortData, if_neg (by simp [free]), setIfInBounds_eq_set]

theorem State.writePortData_busy (busy : s.host.busy = true) : s.writePortData v = s.collide :=
  if_pos busy

theorem State.closePort_free (free : s.host.busy = false) :
    s.closePort = s.setPort { s.port with isOpen := false } := if_neg (by simp [free])

theorem State.closePort_busy (busy : s.host.busy = true) : s.closePort = s.collide := if_pos busy

theorem State.readPortData_free (released : s.inReset = false) (free : s.host.busy = false) :
    s.readPortData =
      { s with readData := s.port.buffer[s.port.pointer.toNat],
               port := { s.port with pointer := nextPointer s.port.pointer } } := by
  rw [State.readPortData, if_neg (by simp [released]), if_neg (by simp [free]), byteAt_eq_getElem]
  rfl

theorem State.readPortData_busy (released : s.inReset = false) (busy : s.host.busy = true) :
    s.readPortData = { s with readData := 0x00, host := { s.host with collided := true } } := by
  rw [State.readPortData, if_neg (by simp [released]), if_pos busy]
  rfl

end PortRegisters

/-- Settles O49: RESETn deasserted, each access is the port register's own operation, split on BUSY. -/
theorem portAccesses : Obligations.PortAccesses := by
  intro s v released next
  have reaches {f : State → State} {t : State} (writes : f s = t) :
      Host.Outcome.next (s.busWrite f) = (.next t : Host.Outcome State Fault Refusal) := by
    rw [State.busWrite_of_released released, writes]
  have pointer : nextPointer s.port.pointer = next := nextPointer_eq s.port.pointer
  rw [← pointer]
  refine ⟨fun free => ⟨reaches (State.writePointer_free v free),
    congrArg Host.Outcome.next (State.readPortData_free released free),
    reaches (State.writePortData_free v free), reaches (State.closePort_free free)⟩,
    fun busy => ⟨?_, congrArg Host.Outcome.next (State.readPortData_busy released busy)⟩⟩
  simp only [List.forall_mem_cons]
  exact ⟨reaches (State.writePointer_busy v busy), reaches (State.writePortData_busy v busy),
    reaches (State.closePort_busy busy), nofun⟩

end Sys2Proof.Machine
end

-- ==== Proofs: opens and the port ====
section
/-! OPEN_PEEK and OPEN_TAKE with the windows they copy (R54, R55, R74, R78, R110, R146, R167, R172, R176), and
what COMMIT and ERASE leave of the port (R169, R170). -/

namespace Sys2Proof.Machine

/-! ## Codes of the layouts -/

theorem lineCode_eq (x : LineId) : lineCode x = if x = .a then 0x00 else 0x01 := by cases x <;> rfl

theorem directionCode_eq (d : Direction) : directionCode d = if d = .push then 0x01 else 0x00 := by
  cases d <;> rfl

theorem supplyCode_eq (y : Supply) : supplyCode y = if y = .deferred then 0x01 else 0x00 := by
  cases y <;> rfl

theorem holdPointCode_eq (p : HoldPoint) : holdPointCode p = if p = .cycle then 0x01 else 0x00 := by
  cases p <;> rfl

/-! ## Windows -/

/-- A queue of at most eight requests fills its positions from the front, FFh behind it (R110). -/
theorem adhocWindow_eq {l : LineController} (bounded : l.queue.length ≤ 8) :
    adhocWindow l =
      [lowByte l.queue.length] ++ l.queue.map (fun d => lowByte d.val) ++
        List.replicate (8 - l.queue.length) 0xFF ++ [indexCode l.inFlight] := by
  have positions : ((l.queue.map fun (d : Fin 64) => lowByte d.val) ++ List.replicate 8 0xFF).take 8 =
      (l.queue.map fun d => lowByte d.val) ++ List.replicate (8 - l.queue.length) 0xFF := by
    rw [List.take_append, List.length_map, List.take_of_length_le (by simpa using bounded),
      List.take_replicate, Nat.min_eq_left (Nat.sub_le _ _)]
  simp only [adhocWindow, positions, List.append_assoc]

/-- Every window has the size of its table, whatever its entry holds (R176). -/
theorem State.window_length (s : State) (table : TableId) (i : Nat) :
    (s.window table i).length = windowSize table := by
  cases table with
  | descriptor => simp [State.window, descriptorWindow, windowSize]
  | adhoc => simp [State.window, adhocWindow, windowSize]
  | slot | directory | node | line => rfl

theorem windowSize_le (table : TableId) : windowSize table ≤ 32 := by cases table <;> decide

theorem windowSize_of_mem {table : TableId} {size : Nat}
    (row : (table, size) ∈ [(TableId.descriptor, 26), (.slot, 6), (.directory, 4), (.node, 9),
      (.line, 28), (.adhoc, 10)]) : windowSize table = size := by
  simp only [List.mem_cons, Prod.mk.injEq, List.not_mem_nil, or_false] at row
  rcases row with ⟨rfl, rfl⟩ | ⟨rfl, rfl⟩ | ⟨rfl, rfl⟩ | ⟨rfl, rfl⟩ | ⟨rfl, rfl⟩ | ⟨rfl, rfl⟩ <;> rfl

/-- Bytes laid over a buffer of zeros stand before the zeros that are left. -/
theorem overlay_zeros {n : Nat} {bytes : List Byte} (room : bytes.length ≤ n) :
    (overlay bytes (Vector.replicate n 0)).toList = bytes ++ List.replicate (n - bytes.length) 0 := by
  have shown : (overlay bytes (Vector.replicate n 0)).toList =
      (bytes ++ (Vector.replicate n (0 : Byte)).toList.drop bytes.length).take n := rfl
  rw [shown, Vector.toList_replicate, List.drop_replicate, List.take_of_length_le]
  rw [List.length_append, List.length_replicate]
  omega

/-! ## The opens -/

section Opens

variable {s : State} {table : TableId} {i : Nat}

theorem exec_openPeek (accepted : s.accepted = some (.openPeek table i)) :
    exec .openPeek s = .next ((s.openPort table i).complete (openAnswer table)) := by
  simp only [exec, execOpenPeek, accepted]

theorem exec_openTake (accepted : s.accepted = some (.openTake table i)) :
    exec .openTake s =
      .next (((s.openPort table i).takeFlags table i).complete (openAnswer table)) := by
  simp only [exec, execOpenTake, accepted]

theorem State.openPort_buffer (s : State) (table : TableId) (i : Nat) :
    (s.openPort table i).port.buffer.toList =
      s.window table i ++ List.replicate (32 - windowSize table) 0x00 := by
  have room : (s.window table i).length ≤ 32 := by
    rw [s.window_length]
    exact windowSize_le table
  rw [State.openPort, State.setPort_port, overlay_zeros room, s.window_length]

@[simp] theorem State.takeFlags_port (s : State) (table : TableId) (i : Nat) :
    (s.takeFlags table i).port = s.port := by cases table <;> rfl

@[simp] theorem State.takeFlags_host (s : State) (table : TableId) (i : Nat) :
    (s.takeFlags table i).host = s.host := by cases table <;> rfl

/-- Only descriptors hold freshness flags (R55). -/
theorem State.takeFlags_other (s : State) (i : Nat) (other : table ≠ .descriptor) :
    s.takeFlags table i = s := by
  cases table with
  | descriptor => exact absurd rfl other
  | slot | directory | node | line | adhoc => rfl

theorem State.takeFlags_descriptor (s : State) (d : Fin 64) :
    s.takeFlags .descriptor d.val =
      s.setDesc d { s.desc d with unread := false, overwritten := false } := by
  simp only [State.takeFlags, entry_val]

end Opens

/-- Settles O42: each window is read off its layout, and the flags are taken beside the port. -/
theorem openCommands : Obligations.OpenCommands := by
  constructor
  · intro s byte yes orNone onLine
    have line : onLine = lineCode := funext fun x => (lineCode_eq x).symm
    have index {n : Nat} (i : Option (Fin n)) : orNone (i.map Fin.val) = indexCode i := by
      cases i <;> rfl
    refine ⟨fun d => ?_, fun k => ?_, fun i => ?_, fun n => ?_, fun x => ?_, fun x bounded => ?_⟩
    · simp only [line, index, State.window, entry_val, descriptorWindow, directionCode_eq,
        supplyCode_eq, ← BitVec.ofNat_toNat]
      rfl
    · simp only [index, State.window, entry_val]
      rfl
    · simp only [State.window, entry_val]
      rfl
    · simp only [line, State.window, entry_val]
      rfl
    · simp only [index, State.window, lineEntry_lineCode, lineWindow, holdPointCode_eq]
      rfl
    · simp only [index, State.window, lineEntry_lineCode, adhocWindow_eq bounded]
      rfl
  · intro s table i size row opened
    obtain rfl := windowSize_of_mem row
    have opens (t : State) (port : t.port = (s.openPort table i).port)
        (host : t.host = ((s.openPort table i).complete (openAnswer table)).host) : opened t := by
      refine ⟨port ▸ rfl, port ▸ rfl, port ▸ rfl, port ▸ rfl, s.window_length table i, ?_, host⟩
      rw [port, s.openPort_buffer]
    refine ⟨fun _ _ accepted => ⟨_, exec_openPeek accepted, opens _ rfl rfl, rfl⟩,
      fun _ _ accepted => ⟨_, exec_openTake accepted, opens _ (by simp) ?_, fun other => ?_, ?_⟩⟩
    · simp [State.complete]
    · rw [State.takeFlags_other _ i other]
      rfl
    · rintro d rfl rfl
      rw [State.takeFlags_descriptor]
      rfl

/-! ## COMMIT and ERASE -/

theorem State.TableWrite.port {s t : State} (write : s.TableWrite t) : t.port = s.port := by
  cases write with
  | refused same => rw [same]
  | commitDescriptor _ written | eraseDescriptor _ written | directory _ _ written
  | slot _ _ written | node _ _ written | settings _ _ written => simp [written]

/-- No owner takes a commit of a closed port or of the ADHOC table (R169, R170). -/
theorem State.commitPort_refused {s : State} (shut : s.port.isOpen = false ∨ s.port.table = .adhoc) :
    s.commitPort = (s, .wrongState) := by
  unfold State.commitPort
  split
  · next isOpen => rw [shut.resolve_left (by simp [isOpen])]
  · rfl

/-- Settles O43: whatever a commit or an erase writes, it is one entry of a table and not the port. -/
theorem commitAndThePort : Obligations.CommitAndThePort := by
  refine ⟨fun s accepted shut => exec_commit_of_port accepted (State.commitPort_refused shut),
    fun s => ⟨_, rfl, ?_⟩, fun s => ⟨_, rfl, ?_⟩⟩
  · split
    · exact s.commitPort_tableWrite.port
    · rfl
  · split
    · exact (s.eraseEntry_tableWrite _ _).port
    · rfl

end Sys2Proof.Machine
end

-- ==== Proofs: the queue of waiting steps ====
section
/-! Every row of the opcode table completes and leaves the queue of waiting steps: the queue is no part of
the device, and only the step takes from its front (assumptions 4 and 17). -/

namespace Sys2Proof.Machine

/-- Settles O1: the front of the queue tells the step's two cases apart. -/
theorem stepTakesTheFrontCommand : Obligations.StepTakesTheFrontCommand := by
  intro c rest s front
  simp only [step, front]

/-! ## The work of a line -/

section Work

variable (s : State) (x : LineId)

@[simp] theorem State.startLine_pending (k : Fin 8) : (s.startLine x k).pending = s.pending :=
  (s.lineWork_startLine x k).pending

@[simp] theorem State.endFrame_pending (o : FrameOutcome) (reply : List Byte) :
    (s.endFrame x o reply).pending = s.pending := (s.lineWork_endFrame x o reply).pending

@[simp] theorem State.goOff_pending (cause : Cause) : (s.goOff x cause).pending = s.pending :=
  (s.lineWork_goOff x cause).pending

@[simp] theorem State.goWaking_pending (m : Monitor) (cause : Cause) :
    (s.goWaking x m cause).pending = s.pending := (s.lineWork_goWaking x m cause).pending

@[simp] theorem State.setHoldFlag_pending (v : Bool) :
    (s.setHoldFlag x v).pending = s.pending := (s.lineWork_setHoldFlag x v).pending

@[simp] theorem State.postLineChange_pending (index : Byte) (cause : Cause) :
    (s.postLineChange x index cause).pending = s.pending := rfl

@[simp] theorem State.resetLine_pending : (s.resetLine x).pending = s.pending := by
  rw [State.resetLine_eq, State.flushViews_eq]
  simp

end Work

/-! ## Commands -/

section Commands

variable (s : State) (x : LineId)

@[simp] theorem State.takeStart_pending (k : Fin 8) : (s.takeStart x k).pending = s.pending := by
  unfold State.takeStart
  split
  · split <;> simp
  · simp

@[simp] theorem State.takeStopEnd_pending : (s.takeStopEnd x).pending = s.pending := by
  unfold State.takeStopEnd
  split <;> simp

@[simp] theorem State.takeStopNow_pending : (s.takeStopNow x).pending = s.pending := by
  unfold State.takeStopNow
  split <;> simp

@[simp] theorem State.takeSwitch_pending (k : Fin 8) : (s.takeSwitch x k).pending = s.pending := by
  unfold State.takeSwitch
  split
  · split <;> simp
  · simp

@[simp] theorem State.takeWake_pending : (s.takeWake x).pending = s.pending := by
  unfold State.takeWake
  dsimp only
  split <;> simp

@[simp] theorem State.takeClearFault_pending : (s.takeClearFault x).pending = s.pending := by
  unfold State.takeClearFault
  dsimp only
  split
  · split <;> simp
  · simp

@[simp] theorem State.takeSupply_pending (d : Fin 64) : (s.takeSupply x d).pending = s.pending := by
  unfold State.takeSupply
  dsimp only
  split
  · split
    · split <;> simp
    · simp
  · simp

@[simp] theorem State.takeEnqueue_pending (d : Fin 64) : (s.takeEnqueue x d).pending = s.pending := by
  unfold State.takeEnqueue
  split <;> simp

@[simp] theorem State.takeCancel_pending (d : Fin 64) : (s.takeCancel x d).pending = s.pending := by
  unfold State.takeCancel
  dsimp only
  split <;> simp

@[simp] theorem State.openPort_pending (table : TableId) (i : Nat) :
    (s.openPort table i).pending = s.pending := rfl

@[simp] theorem State.takeFlags_pending (table : TableId) (i : Nat) :
    (s.takeFlags table i).pending = s.pending := by cases table <;> rfl

theorem State.TableWrite.pending {s t : State} (write : s.TableWrite t) : t.pending = s.pending := by
  cases write with
  | refused same => rw [same]
  | commitDescriptor _ written | eraseDescriptor _ written | directory _ _ written
  | slot _ _ written | node _ _ written | settings _ _ written => simp [written]

@[simp] theorem State.commitPort_pending : s.commitPort.1.pending = s.pending :=
  s.commitPort_tableWrite.pending

@[simp] theorem State.eraseEntry_pending (table : TableId) (i : Nat) :
    (s.eraseEntry table i).1.pending = s.pending := (s.eraseEntry_tableWrite table i).pending

end Commands

/-! ## The register window -/

section Registers

variable (s : State) (v : Byte)

theorem State.busWrite_pending {s : State} {f : State → State} (same : (f s).pending = s.pending) :
    (s.busWrite f).pending = s.pending := by
  unfold State.busWrite
  split
  · rfl
  · exact same

theorem State.writePointer_pending : (s.writePointer v).pending = s.pending := by
  unfold State.writePointer
  split <;> rfl

theorem State.writePortData_pending : (s.writePortData v).pending = s.pending := by
  unfold State.writePortData
  split <;> rfl

theorem State.closePort_pending : s.closePort.pending = s.pending := by
  unfold State.closePort
  split <;> rfl

theorem State.readPortData_pending : s.readPortData.pending = s.pending := by
  unfold State.readPortData
  split
  · rfl
  · split <;> rfl

theorem State.writeRegister_pending (address : BitVec 5) :
    (s.writeRegister address v).pending = s.pending := by
  unfold State.writeRegister
  split
  case h_9 => exact s.writePointer_pending v
  case h_10 => exact s.writePortData_pending v
  case h_11 => exact s.closePort_pending
  all_goals rfl

end Registers

/-! ## Rows -/

/-- Settles O3: a row is the work of a line, a command that its owner takes or leaves, or an access of the
register window, and none of these reaches the queue. -/
theorem everyStepCompletesAndLeavesTheQueue : Obligations.EveryStepCompletesAndLeavesTheQueue := by
  intro c s
  cases c with
  | powerOnReset | resetnRelease | postTaken _ | resetRecordsPosted _ => exact ⟨_, rfl, rfl⟩
  | start | stopEnd | stopNow | switch | holdSet | holdClear | wake | clearFault | lineReset | supply
  | enqueue | cancel | openPeek | openTake | commit | erase =>
    refine ⟨_, rfl, ?_⟩
    split <;> simp
  | pop _ | intEnableWrite _ | kindMaskWrite _ | cmdWrite _ =>
    exact ⟨_, rfl, State.busWrite_pending rfl⟩
  | portPointerWrite v => exact ⟨_, rfl, State.busWrite_pending (s.writePointer_pending v)⟩
  | portDataRead => exact ⟨_, rfl, s.readPortData_pending⟩
  | portDataWrite v => exact ⟨_, rfl, State.busWrite_pending (s.writePortData_pending v)⟩
  | portStateWrite _ => exact ⟨_, rfl, State.busWrite_pending s.closePort_pending⟩
  | registerWrite address v =>
    exact ⟨_, rfl, State.busWrite_pending (s.writeRegister_pending v address)⟩
  | holdPinLevelChange x => exact ⟨_, rfl, (s.lineWork_levelChanges x).pending⟩
  | slotEnd x => exact ⟨_, rfl, (s.lineWork_slotEnds x).pending⟩
  | alertEnd x => exact ⟨_, rfl, (s.lineWork_alertEnds x).pending⟩
  | markEnd x => exact ⟨_, rfl, (s.lineWork_markEnds x).pending⟩
  | controlEnd x => exact ⟨_, rfl, (s.lineWork_controlEnds x).pending⟩
  | readback x bit samples => exact ⟨_, rfl, (s.lineWork_compareBit x bit samples).pending⟩
  | replyCharacter x _ _ _ => exact ⟨_, rfl, (s.lineWork_character x _).pending⟩
  | replySpaceEnd x => exact ⟨_, rfl, (s.lineWork_replySpaceEnds x).pending⟩
  | replyGapEnd x => exact ⟨_, rfl, (s.lineWork_replyGapEnds x).pending⟩
  | checkCompare x => exact ⟨_, rfl, (s.lineWork_compareCheck x).pending⟩
  | supplyWindowEnd x => exact ⟨_, rfl, (s.lineWork_windowEnds x).pending⟩
  | pushSpaceEnd x => exact ⟨_, rfl, (s.lineWork_pushSpaceEnds x).pending⟩
  | pushEnd x => exact ⟨_, rfl, (s.lineWork_pushEnds x).pending⟩
  | stuckLineReport x => exact ⟨_, rfl, (s.lineWork_reportStuck x).pending⟩
  | remoteWake x => exact ⟨_, rfl, (s.lineWork_wakeRemotely x).pending⟩
  | wakePulseEnd x => exact ⟨_, rfl, (s.lineWork_pulseEnds x).pending⟩
  | recoveryEnd x => exact ⟨_, rfl, (s.lineWork_recoveryEnds x).pending⟩
  | replyStartBit x edge samples => exact ⟨_, rfl, (s.lineWork_startBit x edge samples).pending⟩
  | bitTimeJudged x samples => exact ⟨_, rfl, (s.lineWork_judgeBit x samples).pending⟩
  | holdPinSample x reading => exact ⟨_, rfl, (s.lineWork_samplePin x reading).pending⟩

end Sys2Proof.Machine
end

-- ==== Proofs: steps that find nothing ====
section
/-! Command rows without their command and events whose condition does not hold: each is the branch of its
definition that leaves the state (assumptions 2 and 3). -/

namespace Sys2Proof.Machine

/-! ## Command rows -/

/-- The rows at which the owner of a command takes it (R164). -/
def commandRows : List Instr :=
  [.start, .stopEnd, .stopNow, .switch, .holdSet, .holdClear, .wake, .clearFault, .lineReset, .supply,
    .enqueue, .cancel, .openPeek, .openTake, .commit, .erase]

/-- The owner of a command that the command unit does not hold finds nothing to take (assumption 2). -/
theorem exec_commandRow_of_not_held {s : State} {c : Instr} (row : c ∈ commandRows)
    (other : ∀ held, s.accepted = some held → c ≠ held.row) : exec c s = .next s := by
  cases c with
  | start | stopEnd | stopNow | switch | holdSet | holdClear | wake | clearFault | lineReset | supply
  | enqueue | cancel | openPeek | openTake | commit | erase =>
    refine congrArg Host.Outcome.next ?_
    split
    · next accepted => exact absurd rfl (other _ accepted)
    · rfl
  | _ => simp [commandRows] at row

/-! ## Events of a line -/

section Events

variable {s : State} {x : LineId}

theorem State.slotEnds_eq_self
    (stays : (s.line x).lineState ≠ .running ∧ (s.line x).lineState ≠ .draining ∨
      (s.line x).seq.frameState ≠ .idle) : s.slotEnds x = s :=
  if_neg fun ⟨runs, idle⟩ =>
    stays.elim (fun ⟨running, draining⟩ => runs.elim running draining) (· idle)

theorem State.samplePin_eq_self (off : (s.line x).lineState = .off) (reading : PinLevel) :
    s.samplePin x reading = s := if_pos off

theorem State.levelChanges_eq_self
    (stays : (s.line x).lineState = .off ∨ (s.line x).lastSample ≠ (s.line x).previousSample ∨
      ((s.line x).pinAsserted = true ↔ (s.line x).lastSample = .low)) : s.levelChanges x = s := by
  refine State.levelChanges_not_due ?_
  rw [← Bool.not_eq_true, LineController.levelDue_iff]
  rintro ⟨on, equal, changed⟩
  rcases stays with off | differ | stands
  · exact on off
  · exact differ equal
  · exact changed (Bool.eq_iff_iff.mpr (stands.trans beq_iff_eq.symm))

theorem State.alertEnds_eq_self (other : (s.line x).seq.frameState ≠ .alert) : s.alertEnds x = s :=
  if_neg other

theorem State.markEnds_eq_self (other : (s.line x).seq.frameState ≠ .mark) : s.markEnds x = s :=
  if_neg other

theorem State.controlEnds_eq_self (other : (s.line x).seq.frameState ≠ .header) :
    s.controlEnds x = s := by
  unfold State.controlEnds
  dsimp only
  split
  · next header _ => exact absurd header other
  · rfl

/-- No bit is sent in IDLE, so none is compared (R24). -/
theorem State.compareBit_eq_self (idle : (s.line x).seq.frameState = .idle) (bit : Nat)
    (samples : Samples) : s.compareBit x bit samples = s :=
  State.compareBit_unsent samples (by simp [sentBits, idle])

theorem State.startBit_eq_self (wait : (s.line x).seq.frameState ≠ .replyWait)
    (reply : (s.line x).seq.frameState ≠ .reply) (edge : Nat) (samples : Samples) :
    s.startBit x edge samples = s :=
  if_neg fun ⟨looks, _⟩ => (Sequencer.looking_frameState looks).elim wait reply

theorem State.character_eq_self
    (stays : (s.line x).seq.frameState ≠ .reply ∨ (s.line x).seq.startEdge = none) (bits : BitVec 9) :
    s.character x bits = s := by
  unfold State.character
  dsimp only
  split
  · next reply edge => exact absurd (stays.resolve_left (· reply)) (edge ▸ nofun)
  · rfl

theorem State.replySpaceEnds_eq_self (other : (s.line x).seq.frameState ≠ .replyWait) :
    s.replySpaceEnds x = s := if_neg other

theorem State.replyGapEnds_eq_self
    (stays : (s.line x).seq.frameState ≠ .reply ∨ (s.line x).seq.startEdge ≠ none ∨
      ∃ length, (s.line x).seq.length = some length ∧ length < (s.line x).seq.charCount) :
    s.replyGapEnds x = s := by
  refine if_neg fun ⟨reply, looks⟩ => ?_
  simp only [Sequencer.looking, reply, Bool.and_eq_true, Option.isNone_iff_eq_none,
    decide_eq_true_eq] at looks
  rcases stays with other | assembling | ⟨length, isLength, received⟩
  · exact other reply
  · exact assembling looks.1
  · rw [isLength] at looks
    exact absurd looks.2 (not_le.mpr received)

theorem State.compareCheck_eq_self
    (stays : (s.line x).seq.frameState ≠ .reply ∨ (s.line x).seq.startEdge ≠ none ∨
      ∃ length, (s.line x).seq.length = some length ∧ (s.line x).seq.charCount ≠ length + 1) :
    s.compareCheck x = s := by
  refine if_neg fun complete => ?_
  simp only [Sequencer.replyComplete, Bool.and_eq_true, beq_iff_eq, Option.isNone_iff_eq_none,
    decide_eq_true_eq] at complete
  obtain ⟨⟨reply, between⟩, count⟩ := complete
  rcases stays with other | assembling | ⟨length, isLength, wrong⟩
  · exact other reply
  · exact assembling between
  · exact wrong (by rw [count, isLength, Option.getD_some])

theorem State.windowEnds_eq_self (other : (s.line x).seq.frameState ≠ .supplyWait) :
    s.windowEnds x = s := if_neg other

theorem State.pushSpaceEnds_eq_self (other : (s.line x).seq.frameState ≠ .pushSpace) :
    s.pushSpaceEnds x = s := if_neg other

theorem State.pushEnds_eq_self (other : (s.line x).seq.frameState ≠ .push) : s.pushEnds x = s :=
  if_neg other

theorem State.judgeBit_eq_self (inactive : (s.line x).monitor.active = false) (samples : Samples) :
    s.judgeBit x samples = s := if_neg (Bool.not_eq_true _ ▸ inactive)

theorem State.reportStuck_eq_self
    (stays : (s.line x).monitor.active = false ∨ (s.line x).monitor.stuckReported = true ∨
      (s.line x).monitor.runCount < (s.line x).settings.stuckLimit) : s.reportStuck x = s := by
  refine if_neg fun due => ?_
  obtain ⟨active, unreported, limit⟩ := (s.line x).stuckDue_iff.mp due
  rcases stays with inactive | reported | short
  · exact absurd (active.symm.trans inactive) nofun
  · exact absurd (reported.symm.trans unreported) nofun
  · exact absurd limit (not_le.mpr short)

theorem State.wakeRemotely_eq_self
    (stays : (s.line x).lineState ≠ .asleep ∨ (s.line x).monitor.qualifyCount ≠ some 0) :
    s.wakeRemotely x = s := if_neg (not_and_or.mpr stays)

theorem State.pulseEnds_eq_self
    (stays : (s.line x).lineState ≠ .waking ∨ (s.line x).monitor.wakePhase ≠ .pulse) :
    s.pulseEnds x = s := if_neg (not_and_or.mpr stays)

theorem State.recoveryEnds_eq_self
    (stays : (s.line x).lineState ≠ .waking ∨ (s.line x).monitor.wakePhase ≠ .recovery ∨
      (s.line x).monitor.recoveryCount < (s.line x).settings.recovery) : s.recoveryEnds x = s := by
  refine if_neg fun recovered => ?_
  simp only [LineController.recovered, Bool.and_eq_true, beq_iff_eq, decide_eq_true_eq] at recovered
  obtain ⟨⟨waking, phase⟩, passed⟩ := recovered
  rcases stays with other | other | short
  · exact other waking
  · exact other phase
  · exact absurd passed (not_le.mpr short)

end Events

/-! ## Held resets -/

theorem splitHold_eq_none {x : LineId} {holds : List ResetHold} (others : ∀ h ∈ holds, h.line ≠ x) :
    splitHold x holds = none := by
  induction holds with
  | nil => rfl
  | cons h rest ih =>
    obtain ⟨other, others⟩ := List.forall_mem_cons.mp others
    simp [splitHold, other, ih others]

theorem EventUnit.releaseHold_eq_self {e : EventUnit} {x : LineId}
    (others : ∀ h ∈ e.holds, h.line ≠ x) : e.releaseHold x = e := by
  simp [EventUnit.releaseHold, splitHold_eq_none others]

/-! ## Rows -/

/-- A row whose work leaves the state completes with that state. -/
theorem next_eq_self {s t : State} (same : t = s) :
    (.next t : Host.Outcome State Fault Refusal) = .next s := congrArg Host.Outcome.next same

/-- Settles O11: a command row needs its command and an event its condition; a line that is OFF with its
sequencer IDLE and its monitor inactive meets the condition of no event. -/
theorem stepsThatFindNothingChangeNothing : Obligations.StepsThatFindNothingChangeNothing := by
  refine ⟨fun s none c row => ?_, fun s held accepted c row other => ?_, fun s x => ?_,
    fun s x off idle inactive bit edge samples b0 b1 b2 reading => ?_⟩
  · exact exec_commandRow_of_not_held row fun held accepted => absurd (none.symm.trans accepted) nofun
  · refine exec_commandRow_of_not_held row fun held' accepted' => ?_
    rwa [← Option.some_inj.mp (accepted.symm.trans accepted')]
  · exact
      ⟨fun other => next_eq_self (State.alertEnds_eq_self other),
        fun other => next_eq_self (State.markEnds_eq_self other),
        fun other => next_eq_self (State.controlEnds_eq_self other),
        fun other => next_eq_self (State.replySpaceEnds_eq_self other),
        fun other => next_eq_self (State.windowEnds_eq_self other),
        fun other => next_eq_self (State.pushSpaceEnds_eq_self other),
        fun other => next_eq_self (State.pushEnds_eq_self other),
        fun wait reply edge samples => next_eq_self (State.startBit_eq_self wait reply edge samples),
        fun stays _ _ _ => next_eq_self (State.character_eq_self stays _),
        fun stays => next_eq_self (State.replyGapEnds_eq_self stays),
        fun stays => next_eq_self (State.compareCheck_eq_self stays),
        fun stays => next_eq_self (State.slotEnds_eq_self stays),
        fun stays => next_eq_self (State.reportStuck_eq_self stays),
        fun stays => next_eq_self (State.wakeRemotely_eq_self stays),
        fun stays => next_eq_self (State.pulseEnds_eq_self stays),
        fun stays => next_eq_self (State.recoveryEnds_eq_self stays),
        fun stays => next_eq_self (State.levelChanges_eq_self stays),
        fun off reading => next_eq_self (State.samplePin_eq_self off reading),
        fun inactive samples => next_eq_self (State.judgeBit_eq_self inactive samples),
        fun others => exec_resetRecordsPosted (EventUnit.releaseHold_eq_self others)⟩
  · have frame : ∀ st, st ≠ .idle → (s.line x).seq.frameState ≠ st := fun st busy same =>
      busy (same.symm.trans idle)
    have line : ∀ st, st ≠ .off → (s.line x).lineState ≠ st := fun st on same =>
      on (same.symm.trans off)
    simp only [List.forall_mem_cons]
    exact
      ⟨next_eq_self (State.levelChanges_eq_self (.inl off)),
        next_eq_self (State.slotEnds_eq_self (.inl ⟨line _ nofun, line _ nofun⟩)),
        next_eq_self (State.alertEnds_eq_self (frame _ nofun)),
        next_eq_self (State.markEnds_eq_self (frame _ nofun)),
        next_eq_self (State.controlEnds_eq_self (frame _ nofun)),
        next_eq_self (State.compareBit_eq_self idle bit samples),
        next_eq_self (State.character_eq_self (.inl (frame _ nofun)) _),
        next_eq_self (State.replySpaceEnds_eq_self (frame _ nofun)),
        next_eq_self (State.replyGapEnds_eq_self (.inl (frame _ nofun))),
        next_eq_self (State.compareCheck_eq_self (.inl (frame _ nofun))),
        next_eq_self (State.windowEnds_eq_self (frame _ nofun)),
        next_eq_self (State.pushSpaceEnds_eq_self (frame _ nofun)),
        next_eq_self (State.pushEnds_eq_self (frame _ nofun)),
        next_eq_self (State.reportStuck_eq_self (.inl inactive)),
        next_eq_self (State.wakeRemotely_eq_self (.inl (line _ nofun))),
        next_eq_self (State.pulseEnds_eq_self (.inl (line _ nofun))),
        next_eq_self (State.recoveryEnds_eq_self (.inl (line _ nofun))),
        next_eq_self (State.startBit_eq_self (frame _ nofun) (frame _ nofun) edge samples),
        next_eq_self (State.judgeBit_eq_self inactive samples),
        next_eq_self (State.samplePin_eq_self off reading), nofun⟩

end Sys2Proof.Machine
end
